-- ==== Sys2Proof/Word.lean ====
section
/-! DEFINITION. The fixed-width words that cross the two links of the FT2640 (R178). Everything else of the model
is a count, a name or a record: bit vectors hold only what a link carries as bits. -/

namespace Sys2Proof

/-- One byte of a frame, message or notice. -/
abbrev Byte := BitVec 8

/-- A two-byte number of a link (R178: little-endian on the wire; here its value). -/
abbrev Half := BitVec 16

/-- A four-byte number of a link. -/
abbrev Word := BitVec 32

end Sys2Proof
end

