-- ==== Sys2Proof/Config.lean ====
section
/-! DEFINITION. What one manufactured part fixes and the manual does not: a constant without a body, so that no
proof can see its value. -/

namespace Sys2Proof.Config

/-- R183: the serial number, 0 to 999,999, fixed at manufacture. Log entry 1. -/
opaque serialNumber : Fin 1000000

end Sys2Proof.Config
end

