-- ==== Sys2Proof/Syntax.lean ====
section
/-! DEFINITION. The commands of the FT2640: one constructor of `Instr` per row of spec/opcode_table.json, in the
table's order. A dashboard command carries the argument bytes of its frame as they were received (section 11.6), a
partition message the fields of its write, a line sample the level the sample showed. -/

namespace Sys2Proof

/-- A passenger station of the partition (Conventions: stations are written L and R). -/
inductive Station where
  | left
  | right
  deriving DecidableEq, Repr

/-- A direction of a DPLS transition (R49): RISING names low-to-high transitions, FALLING high-to-low ones. -/
inductive PulseEdge where
  | rising
  | falling
  deriving DecidableEq, Repr

/-- One value for each of the four roof lamps FREE, HIRED, SHARE and OFF (section 8). -/
structure Lamps (α : Type) where
  free : α
  hired : α
  share : α
  off : α
  deriving DecidableEq, Repr

/-- What a NOTICE_READ command stands for (R187): a whole read transaction that clocked `clocked` bytes, or one of
its two ends, so that a posting may fall between them (log entry 15). -/
inductive ReadPart where
  | whole (clocked : Nat)
  | start
  | stop (clocked : Nat)
  deriving DecidableEq, Repr

/-- The commands and events of the part, one constructor per row of spec/opcode_table.json. -/
inductive Instr where
  -- Dashboard commands: the fare table (chapter 1)
  | startFare (set share selection tariff : Byte)
  | pauseFare (slot : Byte)
  | resumeFare (slot : Byte)
  | stopFare (slot : Byte)
  | reopenFare (slot : Byte)
  | addExtra (slot kind count : Byte)
  | cancelExtra (slot kind : Byte)
  | readTrip (slot : Byte)
  | releaseTrip (slot : Byte) (trip : Half)
  -- Dashboard commands: settlement (chapter 6)
  | recordCash (slot : Byte) (tip : Word)
  | declareUnpaid (slot : Byte)
  -- Dashboard commands: the calendar (chapter 4)
  | setClock (year : Half) (month day hour minute second : Byte)
  | adjustClock (seconds : Byte)
  | readClock
  -- Dashboard commands: the tariff store (chapter 5)
  | loadStage
  | stageWrite (selector : Half) (value : Word)
  | readItem (source : Byte) (selector : Half)
  | enableCommit
  | commit
  -- Dashboard command: supply (chapter 10)
  | standby
  -- Dashboard commands: the intercom (chapter 7)
  | answer (station : Byte)
  | openStation (station : Byte)
  | closeStation (station : Byte)
  | talkPress (set : Byte)
  | talkRelease
  -- Dashboard commands: sign and alert (chapter 8)
  | signDuty (value : Byte)
  | shareAccept (value : Byte)
  | signSetup (filter : Byte)
  | clearAlert
  -- Dashboard commands: the shift unit (chapter 9)
  | shiftOpen (driver : Word)
  | shiftBreak
  | shiftResume
  | shiftClose
  | readShift (which : Byte)
  | releaseShift (number : Half)
  | readTotalizers
  -- Dashboard commands: the link (chapter 11)
  | readStatus
  | readEvents
  | setEventMask (mask : Half)
  | watch (block hold : Byte)
  | identify
  | badCommand (code : Byte)
  -- Dashboard link events
  | dcsFalling
  /-- DCS rising; `clocked` is the number of bytes clocked in the frame it ends (R182 counts them). -/
  | dcsRising (clocked : Nat)
  /-- A byte 0xA5 of the dashboard unit, as the next byte of its frame (R184 looks at the first byte alone). -/
  | watchModeExit
  | linkReset
  -- Partition messages and transactions
  | holdPlaced (station : Station) (trip : Half) (reference amount : Word)
  | holdReleased (station : Station) (reference : Word)
  | payBegin (station : Station) (trip : Half)
  | payResult (station : Station) (trip : Half) (outcome : Byte) (captured tip reference : Word)
  | payVoid (station : Station) (trip : Half) (reference : Word)
  | fareQuery (station : Station)
  | selectorWrite (station : Station)
  | partitionWriteDiscarded (bytes : List Byte)
  | noticeRead (part : ReadPart)
  -- Time
  | secondRollover
  | paymentTimerExpiry (slot : Fin 4)
  | callTimerExpiry (station : Station)
  | connectionExpiry
  | talkExpiry
  | ignitionOffTimerExpiry
  | callChimeEnd
  | fareChimeEnd (station : Station)
  -- Lines
  | acceptedEdge (edge : PulseEdge)
  | dsensSample (high : Bool)
  | svcSample (high : Bool)
  | buttonSample (station : Station) (pressed : Bool)
  /-- `inWindow` gives, for each lamp, whether its sense return lies within its window at the period's end. -/
  | lampPeriodEnd (inWindow : Lamps Bool)
  /-- `inWindow` gives the sense returns at the sample: entry into ALERT ends a lamp period early (R145). -/
  | alswSample (pressed : Bool) (inWindow : Lamps Bool)
  | ignSample (high : Bool)
  -- Supply and store completions
  | supplyLoss
  | supplyReturn
  | coldStart
  | commitWriteSuccess
  | commitWriteFailure
  | mirrorWriteSuccess
  | mirrorWriteFailure
  | drstRising
  | batteryDomainLoss
  deriving DecidableEq, Repr

end Sys2Proof
end

