-- ==== Sys2Proof/Machine/Image.lean ====
section
/-! DEFINITION. The tariff image: its 191 items by selector (R79), the blank image (R84), and the image check of a
commit (R89). -/

namespace Sys2Proof.Machine

/-- The twelve items of one tariff (R79, selectors 100 × t + 0 to 11). -/
structure Tariff where
  defined : Nat
  mode : Nat
  flagFall : Nat
  stepAmount : Nat
  stepDistance : Nat
  stepTime : Nat
  includedSteps : Nat
  share2 : Nat
  share3 : Nat
  share4 : Nat
  driverSelectable : Nat
  tipCap : Nat
  deriving DecidableEq, Repr

/-- The two items of one extra kind (R79, selectors 900 + 10 × e + 0 and 1). -/
structure ExtraKind where
  amount : Nat
  maximum : Nat
  deriving DecidableEq, Repr

/-- The six items of one schedule window (R71, R79: selectors 1,000 + 10 × n + 0 to 5). -/
structure Window where
  weekdays : Nat
  day : Nat
  month : Nat
  start : Nat
  stop : Nat
  tariff : Nat
  deriving DecidableEq, Repr

/-- A tariff image: one value for each of the 191 items (R79, R80). An item of staging holds whatever 32-bit value
was written (R85); the values of a committed image lie in the ranges of R79. -/
structure Image where
  defaultTariff : Nat
  pulsesPerKm : Nat
  pulseEdge : Nat
  filterCount : Nat
  payTimeout : Nat
  declineLimit : Nat
  holdWarning : Nat
  tariffs : Vector Tariff 8
  extras : Vector ExtraKind 8
  windows : Vector Window 12
  deriving DecidableEq, Repr

/-- The items with selectors 1 to 7. -/
inductive GeneralItem where
  | defaultTariff | pulsesPerKm | pulseEdge | filterCount | payTimeout | declineLimit | holdWarning
  deriving DecidableEq, Repr

/-- The items of a tariff, in the order of their selectors. -/
inductive TariffItem where
  | defined | mode | flagFall | stepAmount | stepDistance | stepTime | includedSteps
  | share2 | share3 | share4 | driverSelectable | tipCap
  deriving DecidableEq, Repr

/-- The items of an extra kind. -/
inductive ExtraItem where
  | amount | maximum
  deriving DecidableEq, Repr

/-- The items of a window. -/
inductive WindowItem where
  | weekdays | day | month | start | stop | tariff
  deriving DecidableEq, Repr

/-- One of the 191 items; tariffs, kinds and windows are counted from 0 here, from 1 in the manual. -/
inductive Item where
  | general (g : GeneralItem)
  | tariff (t : Fin 8) (f : TariffItem)
  | extra (e : Fin 8) (f : ExtraItem)
  | window (w : Fin 12) (f : WindowItem)
  deriving DecidableEq, Repr

/-- The seven general items in ascending order of selector. -/
def generalItems : List GeneralItem :=
  [.defaultTariff, .pulsesPerKm, .pulseEdge, .filterCount, .payTimeout, .declineLimit, .holdWarning]

/-- The twelve items of a tariff in ascending order of selector. -/
def tariffItems : List TariffItem :=
  [.defined, .mode, .flagFall, .stepAmount, .stepDistance, .stepTime, .includedSteps, .share2, .share3, .share4,
   .driverSelectable, .tipCap]

/-- The two items of an extra kind in ascending order of selector. -/
def extraItems : List ExtraItem := [.amount, .maximum]

/-- The six items of a window in ascending order of selector. -/
def windowItems : List WindowItem := [.weekdays, .day, .month, .start, .stop, .tariff]

/-- The numbers 0 to 7. -/
def eightNumbers : List (Fin 8) := [0, 1, 2, 3, 4, 5, 6, 7]

/-- The numbers 0 to 11. -/
def twelveNumbers : List (Fin 12) := [0, 1, 2, 3, 4, 5, 6, 7, 8, 9, 10, 11]

/-- All 191 items in ascending order of selector, the order in which a commit checks them (R79). -/
def allItems : List Item :=
  generalItems.map .general
    ++ eightNumbers.flatMap (fun t => tariffItems.map (.tariff t))
    ++ eightNumbers.flatMap (fun e => extraItems.map (.extra e))
    ++ twelveNumbers.flatMap (fun w => windowItems.map (.window w))

/-- The place of a general item: its selector less 1. -/
def GeneralItem.place : GeneralItem → Nat
  | .defaultTariff => 0
  | .pulsesPerKm => 1
  | .pulseEdge => 2
  | .filterCount => 3
  | .payTimeout => 4
  | .declineLimit => 5
  | .holdWarning => 6

/-- The offset of a tariff item within its tariff's selectors. -/
def TariffItem.place : TariffItem → Nat
  | .defined => 0
  | .mode => 1
  | .flagFall => 2
  | .stepAmount => 3
  | .stepDistance => 4
  | .stepTime => 5
  | .includedSteps => 6
  | .share2 => 7
  | .share3 => 8
  | .share4 => 9
  | .driverSelectable => 10
  | .tipCap => 11

/-- The offset of an extra item within its kind's selectors. -/
def ExtraItem.place : ExtraItem → Nat
  | .amount => 0
  | .maximum => 1

/-- The offset of a window item within its window's selectors. -/
def WindowItem.place : WindowItem → Nat
  | .weekdays => 0
  | .day => 1
  | .month => 2
  | .start => 3
  | .stop => 4
  | .tariff => 5

/-- R79: the selector of an item. -/
def Item.selector : Item → Nat
  | .general g => 1 + g.place
  | .tariff t f => 100 * (t.val + 1) + f.place
  | .extra e f => 900 + 10 * (e.val + 1) + f.place
  | .window w f => 1000 + 10 * (w.val + 1) + f.place

/-- R79: the item a selector names, or none when it names no item. -/
def itemOf (selector : Nat) : Option Item :=
  if 1 ≤ selector ∧ selector ≤ 7 then
    (generalItems[selector - 1]?).map .general
  else if h : 100 ≤ selector ∧ selector < 900 then
    (tariffItems[selector % 100]?).map (.tariff ⟨selector / 100 - 1, by omega⟩)
  else if h : 910 ≤ selector ∧ selector < 990 then
    (extraItems[selector % 10]?).map (.extra ⟨(selector - 910) / 10, by omega⟩)
  else if h : 1010 ≤ selector ∧ selector < 1130 then
    (windowItems[selector % 10]?).map (.window ⟨(selector - 1010) / 10, by omega⟩)
  else none

/-- The value of a tariff's item. -/
def Tariff.item (t : Tariff) : TariffItem → Nat
  | .defined => t.defined
  | .mode => t.mode
  | .flagFall => t.flagFall
  | .stepAmount => t.stepAmount
  | .stepDistance => t.stepDistance
  | .stepTime => t.stepTime
  | .includedSteps => t.includedSteps
  | .share2 => t.share2
  | .share3 => t.share3
  | .share4 => t.share4
  | .driverSelectable => t.driverSelectable
  | .tipCap => t.tipCap

/-- A tariff with one item replaced. -/
def Tariff.withItem (t : Tariff) (v : Nat) : TariffItem → Tariff
  | .defined => { t with defined := v }
  | .mode => { t with mode := v }
  | .flagFall => { t with flagFall := v }
  | .stepAmount => { t with stepAmount := v }
  | .stepDistance => { t with stepDistance := v }
  | .stepTime => { t with stepTime := v }
  | .includedSteps => { t with includedSteps := v }
  | .share2 => { t with share2 := v }
  | .share3 => { t with share3 := v }
  | .share4 => { t with share4 := v }
  | .driverSelectable => { t with driverSelectable := v }
  | .tipCap => { t with tipCap := v }

/-- The value of an extra kind's item. -/
def ExtraKind.item (e : ExtraKind) : ExtraItem → Nat
  | .amount => e.amount
  | .maximum => e.maximum

/-- An extra kind with one item replaced. -/
def ExtraKind.withItem (e : ExtraKind) (v : Nat) : ExtraItem → ExtraKind
  | .amount => { e with amount := v }
  | .maximum => { e with maximum := v }

/-- The value of a window's item. -/
def Window.item (w : Window) : WindowItem → Nat
  | .weekdays => w.weekdays
  | .day => w.day
  | .month => w.month
  | .start => w.start
  | .stop => w.stop
  | .tariff => w.tariff

/-- A window with one item replaced. -/
def Window.withItem (w : Window) (v : Nat) : WindowItem → Window
  | .weekdays => { w with weekdays := v }
  | .day => { w with day := v }
  | .month => { w with month := v }
  | .start => { w with start := v }
  | .stop => { w with stop := v }
  | .tariff => { w with tariff := v }

/-- The value an image holds for an item. -/
def Image.item (img : Image) : Item → Nat
  | .general .defaultTariff => img.defaultTariff
  | .general .pulsesPerKm => img.pulsesPerKm
  | .general .pulseEdge => img.pulseEdge
  | .general .filterCount => img.filterCount
  | .general .payTimeout => img.payTimeout
  | .general .declineLimit => img.declineLimit
  | .general .holdWarning => img.holdWarning
  | .tariff t f => (img.tariffs[t]).item f
  | .extra e f => (img.extras[e]).item f
  | .window w f => (img.windows[w]).item f

/-- R85: an image with one item replaced; the other items are not touched. -/
def Image.withItem (img : Image) (v : Nat) : Item → Image
  | .general .defaultTariff => { img with defaultTariff := v }
  | .general .pulsesPerKm => { img with pulsesPerKm := v }
  | .general .pulseEdge => { img with pulseEdge := v }
  | .general .filterCount => { img with filterCount := v }
  | .general .payTimeout => { img with payTimeout := v }
  | .general .declineLimit => { img with declineLimit := v }
  | .general .holdWarning => { img with holdWarning := v }
  | .tariff t f => { img with tariffs := img.tariffs.set t ((img.tariffs[t]).withItem v f) }
  | .extra e f => { img with extras := img.extras.set e ((img.extras[e]).withItem v f) }
  | .window w f => { img with windows := img.windows.set w ((img.windows[w]).withItem v f) }

/-- R84: a tariff of the blank image. -/
def blankTariff : Tariff :=
  { defined := 0, mode := 0, flagFall := 0, stepAmount := 1, stepDistance := 10, stepTime := 5, includedSteps := 0,
    share2 := 100, share3 := 100, share4 := 100, driverSelectable := 0, tipCap := 0 }

/-- R84: an extra kind of the blank image. -/
def blankExtra : ExtraKind := { amount := 0, maximum := 1 }

/-- R84: a window of the blank image, 31 February, which contains no minute. -/
def blankWindow : Window := { weekdays := 0, day := 31, month := 2, start := 0, stop := 0, tariff := 1 }

/-- R84: the blank image. -/
def blankImage : Image :=
  { defaultTariff := 1, pulsesPerKm := 1000, pulseEdge := 0, filterCount := 20,
    payTimeout := 90, declineLimit := 3, holdWarning := 90,
    tariffs := Vector.replicate 8 blankTariff,
    extras := Vector.replicate 8 blankExtra,
    windows := Vector.replicate 12 blankWindow }

/-- The tariff of an image by its number 1 to 8. A number outside that range names no tariff; it reads as the blank
tariff, which is not defined. -/
def Image.tariff (img : Image) (number : Nat) : Tariff :=
  if number = 0 then blankTariff else (img.tariffs[number - 1]?).getD blankTariff

/-- The extra kind of an image by its number 1 to 8; another number reads as the blank kind, which is not offered. -/
def Image.extraKind (img : Image) (number : Nat) : ExtraKind :=
  if number = 0 then blankExtra else (img.extras[number - 1]?).getD blankExtra

/-- R80: tariff `number` is defined in the image. -/
def Image.isDefined (img : Image) (number : Nat) : Bool := (img.tariff number).defined == 1

/-- R80: the step size S = Ds × Ts. -/
def Tariff.stepSize (t : Tariff) : Nat := t.stepDistance * t.stepTime

/-- The value lies in the range. -/
def within (low high v : Nat) : Bool := low ≤ v && v ≤ high

/-- R89: the range check of one item of a defined tariff, with the share relations at s3 and s4. -/
def Tariff.itemGood (t : Tariff) : TariffItem → Bool
  | .defined => within 0 1 t.defined
  | .mode => within 0 1 t.mode
  | .flagFall => within 0 99999 t.flagFall
  | .stepAmount => within 1 9999 t.stepAmount
  | .stepDistance => within 10 2000 t.stepDistance
  | .stepTime => within 5 600 t.stepTime
  | .includedSteps => within 0 50 t.includedSteps
  | .share2 => within 30 100 t.share2
  | .share3 => within 30 100 t.share3 && t.share3 ≤ t.share2
  | .share4 => within 30 100 t.share4 && t.share4 ≤ t.share3
  | .driverSelectable => within 0 1 t.driverSelectable
  | .tipCap => within 0 100 t.tipCap

/-- R89: whether an item of an image passes the image check. -/
def Image.itemGood (img : Image) : Item → Bool
  | .general .defaultTariff => within 1 8 img.defaultTariff && img.isDefined img.defaultTariff
  | .general .pulsesPerKm => within 1000 50000 img.pulsesPerKm
  | .general .pulseEdge => within 0 1 img.pulseEdge
  | .general .filterCount => within 3 20 img.filterCount
  | .general .payTimeout => within 30 180 img.payTimeout
  | .general .declineLimit => within 1 5 img.declineLimit
  | .general .holdWarning => within 50 100 img.holdWarning
  | .tariff t .defined => within 0 1 (img.tariffs[t]).defined
  | .tariff t f => (img.tariffs[t]).defined != 1 || (img.tariffs[t]).itemGood f
  | .extra e .amount => within 0 99999 (img.extras[e]).amount
  | .extra e .maximum => within 1 9 (img.extras[e]).maximum
  | .window w .weekdays => within 0 127 (img.windows[w]).weekdays
  | .window w .day => within 0 31 (img.windows[w]).day
  | .window w .month => within 0 12 (img.windows[w]).month
  | .window w .start => within 0 1439 (img.windows[w]).start
  | .window w .stop => within 0 1439 (img.windows[w]).stop
  | .window w .tariff => within 1 8 (img.windows[w]).tariff && img.isDefined (img.windows[w]).tariff

/-- R89: the first item that fails the image check, in ascending order of selector. -/
def Image.firstBad (img : Image) : Option Item := allItems.find? (fun i => !img.itemGood i)

end Sys2Proof.Machine
end

