-- ==== Sys2Proof/Machine/State.lean ====
section
/-! DEFINITION. Everything the manual says the FT2640 holds, as plain data, block by block in the order of its
chapters, with the queue of waiting commands; and the state right after the first application of power, a cold start
(R177). -/

namespace Sys2Proof.Machine

/-- Why a command stops the machine: there is no such reason. Every command of the table has an effect or, where the
part's state does not let it be taken, leaves the state as it is (log entry 2). -/
inductive Fault where
  deriving DecidableEq, Repr

/-- Why a command is refused by the model. -/
inductive Refusal where
  /-- Raised by an arm of `exec` whose command has no meaning yet: no arm raises it. Safe. -/
  | notModelled (mnemonic : String)
  deriving DecidableEq, Repr

/-! ### Shapes shared by the blocks -/

/-- A station set: empty, L alone, R alone, or both (Conventions). -/
inductive StationSet where
  | empty
  | left
  | right
  | both
  deriving DecidableEq, Repr

/-- One value for each station. -/
structure Sides (α : Type) where
  left : α
  right : α
  deriving DecidableEq, Repr

/-- One value for each of the four fare slots 0 to 3 (R1). -/
structure Four (α : Type) where
  a0 : α
  a1 : α
  a2 : α
  a3 : α
  deriving DecidableEq, Repr

/-- A calendar stamp (Conventions). -/
structure Stamp where
  year : Nat
  month : Nat
  day : Nat
  hour : Nat
  minute : Nat
  second : Nat
  deriving DecidableEq, Repr

/-- The days of the week (R62). -/
inductive Weekday where
  | monday | tuesday | wednesday | thursday | friday | saturday | sunday
  deriving DecidableEq, Repr

/-! ### The fare table and the payment sub-record (chapters 1, 2 and 6) -/

/-- The state of an occupied slot; a FREE slot holds no record (R1). -/
inductive FareState where
  | running | paused | stopped | settling | settled
  deriving DecidableEq, Repr

/-- The tariff selection of a fare. -/
inductive Selection where
  | calendar
  | manual (tariff : Nat)
  deriving DecidableEq, Repr

/-- One segment of a trip (R3, R43). -/
structure Segment where
  tariff : Nat
  start : Stamp
  metres : Nat
  seconds : Nat
  steps : Nat
  deriving DecidableEq, Repr

/-- One entry of the extras list (R3). -/
structure Extra where
  kind : Nat
  count : Nat
  deriving DecidableEq, Repr

/-- The reopen grace (R12). -/
structure Grace where
  count : Nat
  attempted : Bool
  deriving DecidableEq, Repr

/-- R99: the method of settlement. -/
inductive Method where
  | unsettled | card | cash | unpaid
  deriving DecidableEq, Repr

/-- R99: the attempt state. -/
inductive Attempt where
  | idle | inProgress | approved | declined | cancelled | timedOut
  deriving DecidableEq, Repr

/-- R99, R101: the hold state. -/
inductive HoldState where
  | held | consumed | releasePending | released
  deriving DecidableEq, Repr

/-- R99: a card hold. -/
structure Hold where
  reference : Nat
  amount : Nat
  station : Station
  state : HoldState
  warned : Bool
  deriving DecidableEq, Repr

/-- R99: the payment sub-record. -/
structure Payment where
  method : Method
  attempt : Attempt
  declines : Nat
  cardRef : Option Nat
  captured : Nat
  tip : Nat
  timer : Nat
  hold : Option Hold
  deriving DecidableEq, Repr

/-- The trip record (section 1.1): every field of its table, with the slot state. -/
structure Trip where
  state : FareState
  number : Nat
  stations : StationSet
  share : Bool
  selection : Selection
  start : Stamp
  stop : Option Stamp
  segments : List Segment
  segmentsFull : Bool
  saturated : Bool
  distanceFault : Bool
  powerPaused : Bool
  /-- Progress Q. -/
  progress : Nat
  /-- Share remainder r. -/
  remainder : Nat
  /-- Fare window w. -/
  window : Nat
  /-- Free steps f. -/
  freeSteps : Nat
  flagFall : Nat
  stepTotal : Nat
  extras : List Extra
  extrasTotal : Nat
  totalDue : Nat
  hiredMetres : Nat
  hiredSeconds : Nat
  grace : Option Grace
  payment : Option Payment
  deriving DecidableEq, Repr

/-! ### The distance unit (chapter 3) -/

/-- The working settings (R48). -/
structure Settings where
  pulsesPerKm : Nat
  edge : PulseEdge
  filter : Nat
  deriving DecidableEq, Repr

/-- The distance unit's state. -/
structure Distance where
  settings : Option Settings
  accumulator : Nat
  window : Nat
  overspeed : Bool
  /-- The sensor state: FAULTED when set, HEALTHY when clear. -/
  faulted : Bool
  lowRun : Nat
  highRun : Nat
  deriving DecidableEq, Repr

/-! ### The calendar (chapter 4) -/

/-- What decided the calendar tariff: a window 1 to 12, or the image's default (R75). -/
inductive Deciding where
  | window (number : Nat)
  | fallback
  deriving DecidableEq, Repr

/-- The calendar's state. -/
structure Calendar where
  time : Stamp
  weekday : Weekday
  clockSet : Bool
  tariff : Option Nat
  deciding : Option Deciding
  deriving DecidableEq, Repr

/-! ### The totalizers and the tariff store (chapters 9 and 5) -/

/-- The ten totalizers (R165), in the order of the totalizer block. -/
structure Totalizers where
  totalMetres : Nat
  hiredMetres : Nat
  hirings : Nat
  tripsCompleted : Nat
  moneyCharged : Nat
  tariffCommits : Nat
  serviceOpenings : Nat
  supplyInterruptions : Nat
  coldStarts : Nat
  shiftCounter : Nat
  deriving DecidableEq, Repr

/-- One copy of the totalizer mirror with its sequence number (R90). -/
structure MirrorCopy where
  totals : Totalizers
  sequence : Nat
  deriving DecidableEq, Repr

/-- The two mirror copies (R90). -/
structure Mirror where
  first : MirrorCopy
  second : MirrorCopy
  deriving DecidableEq, Repr

/-- The name of a mirror copy. -/
inductive CopyName where
  | first | second
  deriving DecidableEq, Repr

/-- The store state. -/
inductive StoreState where
  | idle | commitWrite | mirrorWrite
  deriving DecidableEq, Repr

/-- The write marker of the nonvolatile store, when present. -/
inductive Marker where
  | commit | mirror
  deriving DecidableEq, Repr

/-- The read copy of a commit write: the active image and the validity flag it held (R91). -/
structure ReadCopy where
  image : Image
  valid : Bool
  deriving DecidableEq, Repr

/-- What a store write in progress carries (R91): the staging image as it stood at the COMMIT, for a commit write;
the totalizers; the mirror copy written and the sequence number it will take (R90). -/
structure StoreWrite where
  image : Option Image
  totals : Totalizers
  copy : CopyName
  sequence : Nat
  deriving DecidableEq, Repr

/-- The tariff store's state. -/
structure Store where
  active : Image
  valid : Bool
  version : Nat
  marker : Option Marker
  mirror : Mirror
  state : StoreState
  readCopy : Option ReadCopy
  write : Option StoreWrite
  staging : Image
  stagingLoaded : Bool
  latch : Bool
  /-- The service switch state: OPEN when set. -/
  switchOpen : Bool
  switchRun : Nat
  deriving DecidableEq, Repr

/-! ### The partition intercom (chapter 7) -/

/-- R122: the state of a station. -/
inductive StationState where
  | idle | calling | connected
  deriving DecidableEq, Repr

/-- R135: the fare chimes. -/
inductive ChimeKind where
  | stop | paid | decline
  deriving DecidableEq, Repr

/-- A fare chime sounding at a station, with the periods of 50 ms left. -/
structure FareChime where
  kind : ChimeKind
  left : Nat
  deriving DecidableEq, Repr

/-- R124: a button tracker. -/
inductive ButtonTracker where
  | up
  | down (count : Nat)
  | long
  deriving DecidableEq, Repr

/-- What the intercom holds for one station. -/
structure StationLine where
  state : StationState
  privacy : Bool
  callTimer : Nat
  /-- The call chime state: deferred when set, none when clear. -/
  deferred : Bool
  fareChime : Option FareChime
  tracker : ButtonTracker
  deriving DecidableEq, Repr

/-- A call chime sounding on the driver speaker, with the periods of 50 ms left and the queued tone. -/
structure CallTone where
  station : Station
  left : Nat
  queued : Option Station
  deriving DecidableEq, Repr

/-- R122: the driver path. -/
inductive DriverPath where
  | free
  | talk (set : StationSet)
  | linked (station : Station)
  deriving DecidableEq, Repr

/-- The intercom's state. -/
structure Intercom where
  stations : Sides StationLine
  tone : Option CallTone
  path : DriverPath
  connectionTimer : Nat
  talkTimer : Nat
  deriving DecidableEq, Repr

/-! ### The sign controller (chapter 8) -/

/-- R140: the sign state. -/
inductive SignState where
  | blank | alert | offDuty | free | share | hired
  deriving DecidableEq, Repr

/-- R145: one lamp: its health, its two run counts, and whether it has been lit since its period began. -/
structure Lamp where
  faulted : Bool
  outRun : Nat
  inRun : Nat
  whole : Bool
  deriving DecidableEq, Repr

/-- R147: the alert switch tracker. -/
inductive AlertTracker where
  | up
  | down (count : Nat)
  | held
  deriving DecidableEq, Repr

/-- The sign controller's state. -/
structure Sign where
  /-- The sign state the lamps follow (R141). -/
  shown : SignState
  duty : Bool
  shareAccept : Bool
  filter : Nat
  lamps : Lamps Lamp
  /-- The phase of the flash in ALERT: lit when set (R142). -/
  flashLit : Bool
  latch : Bool
  tracker : AlertTracker
  deriving DecidableEq, Repr

/-! ### The shift unit (chapter 9) -/

/-- The state of a shift record. -/
inductive ShiftState where
  | opened | onBreak | closing
  deriving DecidableEq, Repr

/-- R152: a shift record. -/
structure Shift where
  number : Nat
  driver : Nat
  state : ShiftState
  openStamp : Stamp
  closeStamp : Option Stamp
  nextTrip : Nat
  tripsStarted : Nat
  cardSettlements : Nat
  cashSettlements : Nat
  unpaidSettlements : Nat
  voids : Nat
  declines : Nat
  flagFallTotal : Nat
  stepTotal : Nat
  extrasTotal : Nat
  cardFares : Nat
  cashFares : Nat
  unpaidFares : Nat
  tips : Nat
  hiredMetres : Nat
  totalMetres : Nat
  hiredSeconds : Nat
  breakSeconds : Nat
  overspeedSeconds : Nat
  sensorFaults : Nat
  lampFaults : Nat
  alerts : Nat
  missedCalls : Nat
  firstFault : Option Stamp
  adjustmentSum : Int
  allowance : Nat
  deriving DecidableEq, Repr

/-! ### The supply unit (chapter 10) -/

/-- The power state. -/
inductive PowerState where
  | active | standby | holdover
  deriving DecidableEq, Repr

/-- The supply unit's state. -/
structure Supply where
  power : PowerState
  ignitionOn : Bool
  ignitionRun : Nat
  offTimer : Nat
  /-- A standby request pending on the frame that carried STANDBY (R172). -/
  standbyRequest : Bool
  /-- The retention mark: intact when set. -/
  retention : Bool
  /-- The last start: COLD when set, WARM when clear. -/
  lastCold : Bool
  deriving DecidableEq, Repr

/-! ### The links (chapter 11) -/

/-- R180: the result codes. -/
inductive ResultCode where
  | ok | badCommand | badArg | badState | busy | noShift | noSlot
  | stationBusy | privacy | noTariff | clockUnset | serviceClosed | notEnabled | badImage
  | openTrips | uncollected | mismatch | tooLate | limit | holdOpen | paying
  deriving DecidableEq, Repr

/-- R184: the block a watch names. -/
inductive WatchBlock where
  | status
  | display (slot : Fin 4)
  deriving DecidableEq, Repr

/-- What the DCS rising that ends the frame does besides (R182, R184). -/
inductive FrameEnd where
  | nothing
  | clearEvents (copy : BitVec 16)
  | watchOn (block : WatchBlock)
  deriving DecidableEq, Repr

/-- R178, R179: the frame state. A frame in progress awaits its command, or holds the answer to the command taken,
or shows a watch snapshot (with or without its ending byte received), or is the discarded frame of a wake. -/
inductive FrameState where
  | idle
  | receiving
  | answered (args : Nat) (result : ResultCode) (response : List Byte) (atEnd : FrameEnd)
  | watching (snapshot : List Byte)
  | watchEnded (snapshot : List Byte)
  | discarded
  deriving DecidableEq, Repr

/-- The dashboard link's state (R178), with the level of DRST (R185). -/
structure DashLink where
  frame : FrameState
  /-- The bytes counted of the frame in progress, those of every command received in it, taken or ignored (R178, log
  entry 21); 0 when idle. -/
  counted : Nat
  watch : Option WatchBlock
  events : BitVec 16
  mask : BitVec 16
  drstLow : Bool
  deriving DecidableEq, Repr

/-- The reasons of a refused message (R102). -/
inductive Reason where
  | noFare | stationMismatch | wrongState | mismatch | badAmount | tipOverCap
  | late | cardBlocked | noHold | stationBusy | badMessage | privacy
  deriving DecidableEq, Repr

/-- The state of a slot as a FARE notice carries it. -/
abbrev SlotCode := Option FareState

/-- A notice (R188, section 11.6), with the values it was posted with. -/
inductive Notice where
  | fare (trip : Nat) (state : SlotCode) (due : Nat)
  | topUp (trip due reference amount : Nat)
  | due (trip due : Nat)
  | ack (kind : Byte) (reason : Option Reason) (trip due : Nat)
  | releaseHold (trip reference amount : Nat)
  deriving DecidableEq, Repr

/-- A read transaction in progress (R187): the slot it reads, the notice copied, and whether a notice has been
posted into the slot since. -/
structure NoticeRead where
  station : Station
  copy : Option Notice
  replaced : Bool
  deriving DecidableEq, Repr

/-- The partition link's state (R178), with the read in progress (R187). -/
structure PartitionLink where
  notices : Sides (Option Notice)
  selector : Station
  read : Option NoticeRead
  /-- The bytes that the last read transaction to end returned: the MODEL's own field, so that what a read returns can be
  seen (log entry 34). -/
  sent : List Byte
  deriving DecidableEq, Repr

/-! ### The whole part -/

/-- The state of the FT2640, and the commands that wait, first in first out. -/
structure State where
  slots : Four (Option Trip)
  cal : Calendar
  dist : Distance
  store : Store
  ic : Intercom
  sign : Sign
  /-- The current shift record. -/
  shift : Option Shift
  /-- The previous shift record. -/
  prev : Option Shift
  /-- The live totalizers. -/
  tot : Totalizers
  supply : Supply
  dash : DashLink
  link : PartitionLink
  /-- The commands that wait: the MODEL's own field. -/
  pending : List Instr
  deriving DecidableEq, Repr

/-! ### Reset values -/

/-- Every totalizer at 0 (R81: a store never written). -/
def zeroTotals : Totalizers :=
  { totalMetres := 0, hiredMetres := 0, hirings := 0, tripsCompleted := 0, moneyCharged := 0, tariffCommits := 0,
    serviceOpenings := 0, supplyInterruptions := 0, coldStarts := 0, shiftCounter := 0 }

/-- R138: a station at cold start. -/
def idleLine : StationLine :=
  { state := .idle, privacy := false, callTimer := 0, deferred := false, fareChime := none, tracker := .long }

/-- R138: the intercom at cold start. -/
def coldIntercom : Intercom :=
  { stations := ⟨idleLine, idleLine⟩, tone := none, path := .free, connectionTimer := 0, talkTimer := 0 }

/-- R150: a lamp at cold start, HEALTHY with its counts at 0 and not yet lit for a whole period. -/
def coldLamp : Lamp := { faulted := false, outRun := 0, inRun := 0, whole := false }

/-- R150: the sign controller's state at cold start, before the sign is derived. -/
def coldSign : Sign :=
  { shown := .blank, duty := true, shareAccept := false, filter := 4,
    lamps := ⟨coldLamp, coldLamp, coldLamp, coldLamp⟩, flashLit := true, latch := false, tracker := .up }

/-- R61: the calendar at cold start. -/
def coldCalendar : Calendar :=
  { time := ⟨2000, 1, 1, 0, 0, 0⟩, weekday := .saturday, clockSet := false, tariff := none, deciding := none }

/-- R59: the distance unit at cold start, before it takes its working settings. -/
def coldDistance : Distance :=
  { settings := none, accumulator := 0, window := 0, overspeed := false, faulted := false, lowRun := 0, highRun := 0 }

/-- R182, R184: the dashboard link at cold start, before the SUPPLY event is set. -/
def coldDash (drstLow : Bool) : DashLink :=
  { frame := .idle, counted := 0, watch := none, events := 0, mask := 0xFFFF, drstLow := drstLow }

/-- R187, R189: the partition link at cold start. -/
def coldLink : PartitionLink := { notices := ⟨none, none⟩, selector := .left, read := none, sent := [] }

/-- R81: the store as manufactured: never written, version 0, INVALID, no marker. The items of its image and of its
empty staging are the blank image (log entry 4). -/
def unwrittenStore : Store :=
  { active := blankImage, valid := false, version := 0, marker := none,
    mirror := ⟨⟨zeroTotals, 0⟩, ⟨zeroTotals, 0⟩⟩, state := .idle, readCopy := none, write := none,
    staging := blankImage, stagingLoaded := false, latch := false, switchOpen := false, switchRun := 0 }

/-- The part right after the first application of power: the cold start of R177 with the store never written
(R81, R168): ACTIVE, the cold start's mirror write under way, SUPPLY pending. Log entry 3. -/
def State.reset : State :=
  { slots := ⟨none, none, none, none⟩
    cal := coldCalendar
    dist := coldDistance
    store :=
      { unwrittenStore with
        marker := some .mirror
        state := .mirrorWrite
        write := some { image := none, totals := { zeroTotals with coldStarts := 1 }, copy := .first, sequence := 1 } }
    ic := coldIntercom
    sign := { coldSign with shown := .offDuty }
    shift := none
    prev := none
    tot := { zeroTotals with coldStarts := 1 }
    supply := { power := .active, ignitionOn := false, ignitionRun := 0, offTimer := 0, standbyRequest := false,
                retention := true, lastCold := true }
    dash := { coldDash false with events := 0x4000 }
    link := coldLink
    pending := [] }

end Sys2Proof.Machine
end

