-- ==== Sys2Proof/Machine/Containers.lean ====
section
/-! DEFINITION. Reading and writing the small containers of the state: four slots, two stations, four lamps. -/

namespace Sys2Proof

/-- The other station. -/
def Station.other (x : Station) : Station :=
  match x with
  | .left => .right
  | .right => .left

/-! ### Four lamps -/

/-- A function applied to each lamp's value. -/
def Lamps.map {α β : Type} (f : α → β) (l : Lamps α) : Lamps β := ⟨f l.free, f l.hired, f l.share, f l.off⟩

/-- A function applied lamp by lamp to two rows of values. -/
def Lamps.zip {α β γ : Type} (f : α → β → γ) (a : Lamps α) (b : Lamps β) : Lamps γ :=
  ⟨f a.free b.free, f a.hired b.hired, f a.share b.share, f a.off b.off⟩

/-- The four values, FREE, HIRED, SHARE, OFF. -/
def Lamps.list {α : Type} (l : Lamps α) : List α := [l.free, l.hired, l.share, l.off]

end Sys2Proof

namespace Sys2Proof.Machine

/-! ### Four slots -/

/-- The value of slot `i`. -/
def Four.get {α : Type} (q : Four α) (i : Fin 4) : α :=
  match i with
  | 0 => q.a0
  | 1 => q.a1
  | 2 => q.a2
  | 3 => q.a3

/-- The four slots with slot `i` replaced. -/
def Four.set {α : Type} (q : Four α) (i : Fin 4) (x : α) : Four α :=
  match i with
  | 0 => { q with a0 := x }
  | 1 => { q with a1 := x }
  | 2 => { q with a2 := x }
  | 3 => { q with a3 := x }

/-- The four values in slot order. -/
def Four.list {α : Type} (q : Four α) : List α := [q.a0, q.a1, q.a2, q.a3]

/-- The slot numbers in order. -/
def slotNumbers : List (Fin 4) := [0, 1, 2, 3]

/-! ### Two stations -/

/-- The value of a station. -/
def Sides.get {α : Type} (p : Sides α) (x : Station) : α :=
  match x with
  | .left => p.left
  | .right => p.right

/-- The two stations with one replaced. -/
def Sides.set {α : Type} (p : Sides α) (x : Station) (v : α) : Sides α :=
  match x with
  | .left => { p with left := v }
  | .right => { p with right := v }

/-- The station is in the set. -/
def StationSet.has (set : StationSet) (x : Station) : Bool :=
  match set, x with
  | .empty, _ => false
  | .both, _ => true
  | .left, .left => true
  | .left, .right => false
  | .right, .left => false
  | .right, .right => true

/-- The stations of a set, L first. -/
def StationSet.members (set : StationSet) : List Station :=
  match set with
  | .empty => []
  | .left => [.left]
  | .right => [.right]
  | .both => [.left, .right]

end Sys2Proof.Machine
end

