-- ==== Sys2Proof/Machine/DateTime.lean ====
section
/-! DEFINITION. Dates and times of the calendar: month lengths, weekdays, one second on and one second back (R62,
R63), and the schedule windows (R73, R74, R75). -/

namespace Sys2Proof.Machine

/-- R62: within 2000 to 2099 a year is a leap year when it is divisible by 4. -/
def isLeap (year : Nat) : Bool := year % 4 == 0

/-- R62: the number of days of a month. -/
def monthLength (year month : Nat) : Nat :=
  match month with
  | 4 => 30
  | 6 => 30
  | 9 => 30
  | 11 => 30
  | 2 => if isLeap year then 29 else 28
  | _ => 31

/-- R66: the stamp is a valid date and time. -/
def Stamp.valid (t : Stamp) : Bool :=
  2000 ≤ t.year && t.year ≤ 2099 && 1 ≤ t.month && t.month ≤ 12 && 1 ≤ t.day && t.day ≤ monthLength t.year t.month
    && t.hour ≤ 23 && t.minute ≤ 59 && t.second ≤ 59

/-- R63: the first stamp of the calendar's range. -/
def firstStamp : Stamp := ⟨2000, 1, 1, 0, 0, 0⟩

/-- R63: the last stamp of the calendar's range. -/
def lastStamp : Stamp := ⟨2099, 12, 31, 23, 59, 59⟩

/-- The days of a year before the first of a month. -/
def daysBefore (year : Nat) : Nat → Nat
  | 0 => 0
  | 1 => 0
  | month + 1 => daysBefore year month + monthLength year month

/-- The days from 2000-01-01 to a date. -/
def dayNumber (t : Stamp) : Nat :=
  365 * (t.year - 2000) + (t.year - 2000 + 3) / 4 + daysBefore t.year t.month + (t.day - 1)

/-- R62: the weekday of a date; 2000-01-01 is a Saturday. -/
def weekdayOf (t : Stamp) : Weekday :=
  match dayNumber t % 7 with
  | 0 => .saturday
  | 1 => .sunday
  | 2 => .monday
  | 3 => .tuesday
  | 4 => .wednesday
  | 5 => .thursday
  | _ => .friday

/-- R62: the day after a stamp's date, at 00:00:00; the day after 2099-12-31 is 2000-01-01 (R63). -/
def nextDay (t : Stamp) : Stamp :=
  if t.day < monthLength t.year t.month then ⟨t.year, t.month, t.day + 1, 0, 0, 0⟩
  else if t.month < 12 then ⟨t.year, t.month + 1, 1, 0, 0, 0⟩
  else if t.year < 2099 then ⟨t.year + 1, 1, 1, 0, 0, 0⟩
  else firstStamp

/-- The day before a stamp's date, at 23:59:59; the day before 2000-01-01 is 2099-12-31 (R63). -/
def previousDay (t : Stamp) : Stamp :=
  if 1 < t.day then ⟨t.year, t.month, t.day - 1, 23, 59, 59⟩
  else if 1 < t.month then ⟨t.year, t.month - 1, monthLength t.year (t.month - 1), 23, 59, 59⟩
  else if 2000 < t.year then ⟨t.year - 1, 12, 31, 23, 59, 59⟩
  else lastStamp

/-- R62: one second later. -/
def nextSecond (t : Stamp) : Stamp :=
  if t.second < 59 then { t with second := t.second + 1 }
  else if t.minute < 59 then { t with minute := t.minute + 1, second := 0 }
  else if t.hour < 23 then { t with hour := t.hour + 1, minute := 0, second := 0 }
  else nextDay t

/-- One second earlier. -/
def previousSecond (t : Stamp) : Stamp :=
  if 0 < t.second then { t with second := t.second - 1 }
  else if 0 < t.minute then { t with minute := t.minute - 1, second := 59 }
  else if 0 < t.hour then { t with hour := t.hour - 1, minute := 59, second := 59 }
  else previousDay t

/-- A stamp moved `n` seconds forward, and whether it passed the end of the range (R63). -/
def forward : Nat → Stamp → Stamp × Bool
  | 0, t => (t, false)
  | n + 1, t => ((forward n (nextSecond t)).1, decide (t = lastStamp) || (forward n (nextSecond t)).2)

/-- A stamp moved `n` seconds back, and whether it passed the start of the range (R63). -/
def backward : Nat → Stamp → Stamp × Bool
  | 0, t => (t, false)
  | n + 1, t => ((backward n (previousSecond t)).1, decide (t = firstStamp) || (backward n (previousSecond t)).2)

/-- R69: a stamp moved by a signed number of seconds. -/
def moveBy (z : Int) (t : Stamp) : Stamp × Bool := if 0 ≤ z then forward z.toNat t else backward z.natAbs t

/-- The minute of the day of a stamp (Conventions). -/
def Stamp.minuteOfDay (t : Stamp) : Nat := 60 * t.hour + t.minute

/-- The bit of a weekday in a window's weekday set (section 11.6). -/
def Weekday.bit (d : Weekday) : Nat :=
  match d with
  | .monday => 0
  | .tuesday => 1
  | .wednesday => 2
  | .thursday => 3
  | .friday => 4
  | .saturday => 5
  | .sunday => 6

/-- R73: a window's date fields match the day of a stamp. -/
def Window.matchesDate (w : Window) (t : Stamp) : Bool :=
  (w.weekdays == 0 || w.weekdays.testBit (weekdayOf t).bit)
    && (w.day == 0 || w.day == t.day)
    && (w.month == 0 || w.month == t.month)

/-- R74: a window's minute range covers a minute of the day. -/
def Window.coversMinute (w : Window) (m : Nat) : Bool :=
  if w.start < w.stop then w.start ≤ m && m < w.stop
  else if w.stop < w.start then w.start ≤ m || m < w.stop
  else true

/-- R74: a window contains the minute of a stamp. -/
def Window.contains (w : Window) (t : Stamp) : Bool := w.matchesDate t && w.coversMinute t.minuteOfDay

/-- R75: the lowest-numbered window of a list that contains a stamp's minute, with its tariff; `n` is the number of
the list's first window. -/
def firstWindow (t : Stamp) : Nat → List Window → Option (Nat × Nat)
  | _, [] => none
  | n, w :: rest => if w.contains t then some (n, w.tariff) else firstWindow t (n + 1) rest

/-- R75: the calendar tariff and the deciding window of a minute under an image. -/
def decideTariff (img : Image) (t : Stamp) : Nat × Deciding :=
  match firstWindow t 1 img.windows.toList with
  | some (n, tariff) => (tariff, .window n)
  | none => (img.defaultTariff, .fallback)

end Sys2Proof.Machine
end

