-- ==== Sys2Proof/Machine/Flags.lean ====
section
/-! DEFINITION. The sixteen event flags (R181) and DIRQ (R182). -/

namespace Sys2Proof.Machine

/-- R181: the events. -/
inductive Event where
  | fare | paymentDeclined | hold | tariffSwitch | commitDone | commitFailed | shiftClosed | sensor
  | overspeed | lamp | alert | call | callMissed | service | supply | terminalError
  deriving DecidableEq, Repr

/-- R181: the bit of an event. -/
def Event.bit (e : Event) : Nat :=
  match e with
  | .fare => 0
  | .paymentDeclined => 1
  | .hold => 2
  | .tariffSwitch => 3
  | .commitDone => 4
  | .commitFailed => 5
  | .shiftClosed => 6
  | .sensor => 7
  | .overspeed => 8
  | .lamp => 9
  | .alert => 10
  | .call => 11
  | .callMissed => 12
  | .service => 13
  | .supply => 14
  | .terminalError => 15

/-- The flag of an event as a pending set of that event alone. -/
def Event.flag (e : Event) : BitVec 16 := 1#16 <<< e.bit

/-- The event mask with every event enabled. -/
def allEnabled : BitVec 16 := 0xFFFF

/-- R182: the pending flags that are enabled in the mask. -/
def enabledEvents (d : DashLink) : BitVec 16 := d.events &&& d.mask

/-- R181: a pending set with an event set in it. -/
def DashLink.raise (d : DashLink) (e : Event) : DashLink := { d with events := d.events ||| e.flag }

/-- R182: a pending set less the flags of a copy. -/
def DashLink.clearCopy (d : DashLink) (copy : BitVec 16) : DashLink := { d with events := d.events &&& ~~~copy }

/-- The event is pending. -/
def DashLink.isPending (d : DashLink) (e : Event) : Bool := d.events.getLsbD e.bit

end Sys2Proof.Machine
end

