-- ==== Sys2Proof/Machine/Ops.lean ====
section
/-! DEFINITION. The named operations over the state that every block shares: changing one block, reading and writing
a slot, setting an event, crediting the shift and the totalizers, posting a notice (R188), and the bindings of the
stations (R21). -/

namespace Sys2Proof.Machine

/-! ### Counts -/

/-- Conventions: the highest value of a 32-bit count or money total. -/
def countMax : Nat := 4294967295

/-- Conventions: a saturating rise; a count stays at its highest value once it reaches it. -/
def satAdd (a b : Nat) : Nat := min (a + b) countMax

/-- R2: the highest total due of a fare. -/
def dueMax : Nat := 9999999

/-! ### One block changed -/

/-- The state with its slots changed. -/
def State.onSlots (f : Four (Option Trip) → Four (Option Trip)) (s : State) : State := { s with slots := f s.slots }

/-- The state with the calendar changed. -/
def State.onCal (f : Calendar → Calendar) (s : State) : State := { s with cal := f s.cal }

/-- The state with the distance unit changed. -/
def State.onDist (f : Distance → Distance) (s : State) : State := { s with dist := f s.dist }

/-- The state with the tariff store changed. -/
def State.onStore (f : Store → Store) (s : State) : State := { s with store := f s.store }

/-- The state with the intercom changed. -/
def State.onIc (f : Intercom → Intercom) (s : State) : State := { s with ic := f s.ic }

/-- The state with the sign controller changed. -/
def State.onSign (f : Sign → Sign) (s : State) : State := { s with sign := f s.sign }

/-- R164: a credit to the current shift record; it is dropped when no current record exists. -/
def State.credit (f : Shift → Shift) (s : State) : State := { s with shift := s.shift.map f }

/-- The state with the current shift record replaced. -/
def State.putShift (sh : Option Shift) (s : State) : State := { s with shift := sh }

/-- The state with the previous shift record replaced. -/
def State.putPrev (sh : Option Shift) (s : State) : State := { s with prev := sh }

/-- R166: a raise of the live totalizers. -/
def State.count (f : Totalizers → Totalizers) (s : State) : State := { s with tot := f s.tot }

/-- The state with the supply unit changed. -/
def State.onSupply (f : Supply → Supply) (s : State) : State := { s with supply := f s.supply }

/-- The state with the dashboard link changed. -/
def State.onDash (f : DashLink → DashLink) (s : State) : State := { s with dash := f s.dash }

/-- The state with the partition link changed. -/
def State.onLink (f : PartitionLink → PartitionLink) (s : State) : State := { s with link := f s.link }

/-- R181: an event set in the pending set. -/
def State.raise (e : Event) (s : State) : State := s.onDash (·.raise e)

/-- An event set when a condition holds. -/
def State.raiseIf (b : Bool) (e : Event) (s : State) : State := if b then s.raise e else s

/-! ### Slots -/

/-- The record of slot `i`; none when the slot is FREE (R1). -/
def State.slot (s : State) (i : Fin 4) : Option Trip := s.slots.get i

/-- The state with slot `i` replaced. -/
def State.putSlot (i : Fin 4) (t : Option Trip) (s : State) : State := s.onSlots (·.set i t)

/-- The state with the record of slot `i` changed; a FREE slot stays FREE. -/
def State.modSlot (i : Fin 4) (f : Trip → Trip) (s : State) : State := s.putSlot i ((s.slot i).map f)

/-- An operation applied to each slot in order. -/
def forSlots (f : Fin 4 → State → State) (s : State) : State := f 3 (f 2 (f 1 (f 0 s)))

/-- Conventions: a fare is active in RUNNING, PAUSED, STOPPED or SETTLING. -/
def FareState.isActive (f : FareState) : Bool :=
  match f with
  | .running => true
  | .paused => true
  | .stopped => true
  | .settling => true
  | .settled => false

/-- The trip records of the occupied slots, in slot order. -/
def State.trips (s : State) : List Trip := s.slots.list.filterMap id

/-- A slot holds an active fare. -/
def activeSlot (t : Option Trip) : Bool :=
  match t with
  | some t => t.state.isActive
  | none => false

/-- A slot is RUNNING. -/
def runningSlot (t : Option Trip) : Bool :=
  match t with
  | some t => t.state == .running
  | none => false

/-- Any fare is active. -/
def State.anyActive (s : State) : Bool := s.slots.list.any activeSlot

/-- Any slot is occupied, SETTLED slots included. -/
def State.anyOccupied (s : State) : Bool := s.slots.list.any (·.isSome)

/-- Any slot is FREE. -/
def State.anyFree (s : State) : Bool := s.slots.list.any (·.isNone)

/-- R30: k, the number of slots in RUNNING. -/
def State.runningCount (s : State) : Nat := s.slots.list.countP runningSlot

/-- The number of active fares. -/
def State.activeCount (s : State) : Nat := s.slots.list.countP activeSlot

/-- A slot's fare binds a station: it is active and the station is in its set (R21). -/
def bindsStation (x : Station) (t : Option Trip) : Bool :=
  match t with
  | some t => t.state.isActive && t.stations.has x
  | none => false

/-- R21: the slot a station is bound to. -/
def State.boundSlot (s : State) (x : Station) : Option (Fin 4) := slotNumbers.find? (fun i => bindsStation x (s.slot i))

/-- R21: the station is bound. -/
def State.isBound (s : State) (x : Station) : Bool := s.slots.list.any (bindsStation x)

/-- A station of the set is bound to an active fare. -/
def State.anyBound (s : State) (set : StationSet) : Bool := set.members.any s.isBound

/-- The current shift record is in OPEN. -/
def State.shiftIsOpen (s : State) : Bool := s.shift.any (·.state == .opened)

/-! ### The record's own parts -/

/-- R2: the total due as the sum of its three parts. -/
def Trip.dueSum (t : Trip) : Nat := t.flagFall + t.stepTotal + t.extrasTotal

/-- R2: the record with its total due recomputed. -/
def Trip.recompute (t : Trip) : Trip := { t with totalDue := t.dueSum }

/-- R28: the number of the fare's current tariff, that of the last segment. -/
def Trip.currentTariff (t : Trip) : Nat := (t.segments.getLast?.map (·.tariff)).getD 0

/-- The hold of a record's payment sub-record. -/
def Trip.hold (t : Trip) : Option Hold := t.payment.bind (·.hold)

/-- The record with its hold replaced; a record without a sub-record is left as it is. -/
def Trip.withHold (t : Trip) (h : Hold) : Trip :=
  { t with payment := t.payment.map (fun p => { p with hold := some h }) }

/-- R99: the payment sub-record as it is when created. -/
def newPayment : Payment :=
  { method := .unsettled, attempt := .idle, declines := 0, cardRef := none, captured := 0, tip := 0, timer := 0,
    hold := none }

/-- R100: the record's payment sub-record, created when absent. -/
def Trip.paymentOrNew (t : Trip) : Payment := t.payment.getD newPayment

/-! ### Notices -/

/-- R188: the rank of a notice, which is also its kind code. -/
def Notice.rank (n : Notice) : Nat :=
  match n with
  | .fare .. => 1
  | .topUp .. => 2
  | .due .. => 3
  | .ack .. => 4
  | .releaseHold .. => 5

/-- R188: an unread notice of a slot gives way to a new one of its own rank or a higher one. -/
def givesWay (old : Option Notice) (new : Notice) : Bool :=
  match old with
  | none => true
  | some o => o.rank ≤ new.rank

/-- A notice put into a station's slot; a read of that slot in progress no longer empties it (R187). -/
def PartitionLink.put (p : PartitionLink) (x : Station) (n : Notice) : PartitionLink :=
  { p with
    notices := p.notices.set x (some n)
    read := p.read.map (fun r => if r.station = x then { r with replaced := true } else r) }

/-- R188: a notice posted to a station's slot, taken or dropped by rank. -/
def PartitionLink.post (p : PartitionLink) (x : Station) (n : Notice) : PartitionLink :=
  if givesWay (p.notices.get x) n then p.put x n else p

/-- R189: a station's slot emptied. -/
def PartitionLink.clear (p : PartitionLink) (x : Station) : PartitionLink := { p with notices := p.notices.set x none }

/-- R188: a notice posted to a station's slot. -/
def State.post (x : Station) (n : Notice) (s : State) : State := s.onLink (·.post x n)

/-- A notice posted to each station of a set, L first. -/
def State.postAll (set : StationSet) (n : Notice) (s : State) : State :=
  set.members.foldl (fun s x => s.post x n) s

/-- R11: the DUE notice of a fare posted to each station of its set. -/
def State.postDue (t : Trip) (s : State) : State := s.postAll t.stations (.due t.number t.totalDue)

/-- The fare's hold awaits its release at the station. -/
def awaitsRelease (x : Station) (t : Trip) : Bool :=
  match t.hold with
  | some h => h.state == .releasePending && h.station == x
  | none => false

/-- The record with the lowest trip number of a list. -/
def lowestTrip : List Trip → Option Trip
  | [] => none
  | t :: rest =>
    match lowestTrip rest with
    | none => some t
    | some u => if t.number ≤ u.number then some t else some u

/-- R118: the RELEASE_HOLD notice of a fare's hold. -/
def releaseNotice (t : Trip) : Notice :=
  match t.hold with
  | some h => .releaseHold t.number h.reference h.amount
  | none => .releaseHold t.number 0 0

/-- R189: the RELEASE_HOLD posted again for a station's pending hold, the one whose fare has the lowest trip number. -/
def State.repost (x : Station) (s : State) : State :=
  match lowestTrip (s.trips.filter (awaitsRelease x)) with
  | some t => s.post x (releaseNotice t)
  | none => s

/-- Both stations looked at for a RELEASE_HOLD to post again (R176, R174). -/
def State.repostBoth (s : State) : State := (s.repost .left).repost .right

/-- Both notice slots emptied, and a read in progress given up (R173, R175). -/
def PartitionLink.emptied (p : PartitionLink) : PartitionLink := { p with notices := ⟨none, none⟩, read := none }

end Sys2Proof.Machine
end

