-- ==== Sys2Proof/Machine/FareEngine.lean ====
section
/-! DEFINITION. The fare engine (chapter 2): the fare second, the partial window and tariff segments, with the hold
warning check that follows a change of total due (R37, R105). -/

namespace Sys2Proof.Machine

/-! ### One record -/

/-- R30: the share percentage a tariff gives while `k` fares run. -/
def sharePercent (tar : Tariff) (k : Nat) : Nat :=
  match k with
  | 0 => 100
  | 1 => 100
  | 2 => tar.share2
  | 3 => tar.share3
  | _ => tar.share4

/-- R31: the raw value of a second with window `w`: SINGLE takes the greater of distance and time, DOUBLE the sum. -/
def rawValue (tar : Tariff) (w : Nat) : Nat :=
  if tar.mode = 0 then max (w * tar.stepTime) tar.stepDistance else w * tar.stepTime + tar.stepDistance

/-- R34, R35: one step: a free step, a step in full, or a step cut at the cap. -/
def takeStep (amount : Nat) (t : Trip) : Trip :=
  if 0 < t.freeSteps then { t with freeSteps := t.freeSteps - 1 }
  else if t.totalDue + amount ≤ dueMax then { t with stepTotal := t.stepTotal + amount }.recompute
  else { t with stepTotal := t.stepTotal + (dueMax - t.totalDue), saturated := true }.recompute

/-- R34: the steps of a second, one after another. -/
def takeSteps (amount : Nat) : Nat → Trip → Trip
  | 0, t => t
  | n + 1, t => takeSteps amount n (takeStep amount t)

/-- R32: the sum of which the scaled value is the hundredth part: v × s + r. -/
def scaledSum (v percent : Nat) (t : Trip) : Nat := v * percent + t.remainder

/-- R33: the progress before the steps are taken off: Q + u. -/
def grownProgress (v percent : Nat) (t : Trip) : Nat := t.progress + scaledSum v percent t / 100

/-- R33: the number of steps a value earns. -/
def stepsEarned (tar : Tariff) (v percent : Nat) (t : Trip) : Nat := grownProgress v percent t / tar.stepSize

/-- R32, R33: a value charged to a record: remainder, progress, then the steps earned. -/
def charge (tar : Tariff) (v percent : Nat) (t : Trip) : Trip :=
  takeSteps tar.stepAmount (stepsEarned tar v percent t)
    { t with
      remainder := scaledSum v percent t % 100
      progress := grownProgress v percent t - stepsEarned tar v percent t * tar.stepSize }

/-- The last segment of a list changed. -/
def onLast (f : Segment → Segment) : List Segment → List Segment
  | [] => []
  | [g] => [f g]
  | g :: h :: rest => g :: onLast f (h :: rest)

/-- R36, R39: the counts brought up to date and the window emptied. -/
def countUp (metres seconds steps : Nat) (t : Trip) : Trip :=
  { t with
    segments := onLast (fun g =>
      { g with metres := satAdd g.metres metres, seconds := satAdd g.seconds seconds,
               steps := satAdd g.steps steps }) t.segments
    hiredMetres := satAdd t.hiredMetres metres
    hiredSeconds := satAdd t.hiredSeconds seconds
    window := 0 }

/-- R31 to R36: a record credited with the second just ended, with `k` fares running. -/
def creditSecond (tar : Tariff) (k : Nat) (t : Trip) : Trip :=
  countUp t.window 1 (stepsEarned tar (rawValue tar t.window) (sharePercent tar k) t)
    (charge tar (rawValue tar t.window) (sharePercent tar k) t)

/-- R39: a record's partial window settled, by distance alone, with `k` fares running. -/
def settleWindow (tar : Tariff) (k : Nat) (t : Trip) : Trip :=
  countUp t.window 0 (stepsEarned tar (t.window * tar.stepTime) (sharePercent tar k) t)
    (charge tar (t.window * tar.stepTime) (sharePercent tar k) t)

/-- R43: the segment a tariff starts. -/
def newSegment (tariff : Nat) (start : Stamp) : Segment :=
  { tariff := tariff, start := start, metres := 0, seconds := 0, steps := 0 }

/-- R3, R45: the most segments of a record. -/
def segmentMax : Nat := 4

/-- R43, R44, R45: a new segment under tariff `tariff` of the image, or the segments-full flag when there are four. -/
def startSegment (img : Image) (tariff : Nat) (start : Stamp) (t : Trip) : Trip :=
  if segmentMax ≤ t.segments.length then { t with segmentsFull := true }
  else
    { t with
      progress := t.progress * (img.tariff tariff).stepSize / (img.tariff t.currentTariff).stepSize
      remainder := 0
      segments := t.segments ++ [newSegment tariff start] }

/-- R41: the fare follows the calendar tariff and its current tariff is another. -/
def Trip.lags (t : Trip) (tariff : Nat) : Bool := t.selection == .calendar && t.currentTariff != tariff

/-! ### The slots -/

/-- The parameters of a fare's current tariff in the active image (R28). -/
def State.tariffOf (s : State) (t : Trip) : Tariff := s.store.active.tariff t.currentTariff

/-- R105: the warning threshold of a hold. -/
def warningThreshold (img : Image) (h : Hold) : Nat := h.amount * img.holdWarning / 100

/-- R105: the warning is due: the hold is HELD and not warned, and the total due has reached the threshold. -/
def warningDue (img : Image) (t : Trip) (h : Hold) : Bool :=
  h.state == .held && !h.warned && warningThreshold img h ≤ t.totalDue

/-- R105: the hold warning check on the fare of a slot. -/
def State.holdWarning (i : Fin 4) (s : State) : State :=
  match s.slot i with
  | none => s
  | some t =>
    match t.hold with
    | none => s
    | some h =>
      if warningDue s.store.active t h then
        ((s.putSlot i (some (t.withHold { h with warned := true }))).post h.station
          (.topUp t.number t.totalDue h.reference h.amount)).raise .hold
      else s

/-- R37: a fare's record replaced by the engine, with the hold warning check when its step amount total changed. -/
def State.engine (i : Fin 4) (old new : Trip) (s : State) : State :=
  if new.stepTotal = old.stepTotal then s.putSlot i (some new) else (s.putSlot i (some new)).holdWarning i

/-- R39: the partial window of the RUNNING fare in a slot settled, with `k` fares running. -/
def State.settleSlot (k : Nat) (i : Fin 4) (s : State) : State :=
  match s.slot i with
  | none => s
  | some t => if t.state = .running then s.engine i t (settleWindow (s.tariffOf t) k t) else s

/-- R31 to R37: the RUNNING fare in a slot credited with the second just ended. -/
def State.creditSlot (k : Nat) (i : Fin 4) (s : State) : State :=
  match s.slot i with
  | none => s
  | some t => if t.state = .running then s.engine i t (creditSecond (s.tariffOf t) k t) else s

/-- R30: the fare second: every RUNNING fare credited under the k of this rollover, and the shift's hired seconds. -/
def State.fareSecond (s : State) : State :=
  if s.runningCount = 0 then s
  else (forSlots (State.creditSlot s.runningCount) s).credit
    (fun sh => { sh with hiredSeconds := satAdd sh.hiredSeconds 1 })

/-- R41, R77: a change of calendar tariff as it reaches the fare of a slot. -/
def State.switchSlot (tariff : Nat) (i : Fin 4) (s : State) : State :=
  s.modSlot i (fun t =>
    if (t.state = .running ∨ t.state = .paused) ∧ t.lags tariff = true then
      startSegment s.store.active tariff s.cal.time t
    else t)

end Sys2Proof.Machine
end

