-- ==== Sys2Proof/Machine/Bytes.lean ====
section
/-! DEFINITION. Numbers as the links carry them: little-endian (R178), with the codes of section 11.6. -/

namespace Sys2Proof

/-- R178: the code of a station. -/
def Station.code (x : Station) : Byte :=
  match x with
  | .left => 1
  | .right => 2

end Sys2Proof

namespace Sys2Proof.Machine

/-- The byte of a number's lowest eight bits. -/
def byte (n : Nat) : Byte := BitVec.ofNat 8 n

/-- R178: a two-byte number, least significant byte first. -/
def le2 (n : Nat) : List Byte := [byte n, byte (n / 256)]

/-- R178: a three-byte number. -/
def le3 (n : Nat) : List Byte := [byte n, byte (n / 256), byte (n / 65536)]

/-- R178: a four-byte number. -/
def le4 (n : Nat) : List Byte := [byte n, byte (n / 256), byte (n / 65536), byte (n / 16777216)]

/-- A signed number of one byte. -/
def signedByte (z : Int) : Byte := BitVec.ofInt 8 z

/-- A signed number of two bytes. -/
def signedLe2 (z : Int) : List Byte := le2 (BitVec.ofInt 16 z).toNat

/-- A flag as a byte, 1 or 0. -/
def flagByte (b : Bool) : Byte := if b then 1 else 0

/-- A byte of flags: `flags` from bit 0 up. -/
def flagsByte : List Bool → Byte
  | [] => 0
  | b :: rest => flagByte b ||| (flagsByte rest <<< 1)

/-- `n` bytes of 0. -/
def zeros (n : Nat) : List Byte := List.replicate n 0

/-- Section 11.6: the seven bytes of a calendar stamp. -/
def stampBytes (t : Stamp) : List Byte :=
  le2 t.year ++ [byte t.month, byte t.day, byte t.hour, byte t.minute, byte t.second]

/-- A stamp that may be absent; absent reads as 0. -/
def optStampBytes (t : Option Stamp) : List Byte :=
  match t with
  | some t => stampBytes t
  | none => zeros 7

/-- R178: the code of a station set. -/
def StationSet.code (set : StationSet) : Byte :=
  match set with
  | .empty => 0
  | .left => 1
  | .right => 2
  | .both => 3

/-- Section 11.6: the code of a slot's state; a FREE slot is 0. -/
def slotCode (state : SlotCode) : Byte :=
  match state with
  | none => 0
  | some .running => 1
  | some .paused => 2
  | some .stopped => 3
  | some .settling => 4
  | some .settled => 5

/-- Section 11.6: the code of a sign state. -/
def SignState.code (g : SignState) : Byte :=
  match g with
  | .blank => 0
  | .alert => 1
  | .offDuty => 2
  | .free => 3
  | .share => 4
  | .hired => 5

/-- Section 11.6: the code of a shift state; an absent record is 0. -/
def shiftCode (state : Option ShiftState) : Byte :=
  match state with
  | none => 0
  | some .opened => 1
  | some .onBreak => 2
  | some .closing => 3

/-- Section 11.6: weekday 1 Monday to 7 Sunday. -/
def Weekday.number (d : Weekday) : Nat :=
  match d with
  | .monday => 1
  | .tuesday => 2
  | .wednesday => 3
  | .thursday => 4
  | .friday => 5
  | .saturday => 6
  | .sunday => 7

/-- R78: the deciding window as 1 to 12, as 13 for DEFAULT, or as 0 when absent. -/
def decidingCode (d : Option Deciding) : Byte :=
  match d with
  | none => 0
  | some (.window n) => byte n
  | some .fallback => 13

/-- Section 11.6: the attempt state. -/
def Attempt.code (a : Attempt) : Byte :=
  match a with
  | .idle => 0
  | .inProgress => 1
  | .approved => 2
  | .declined => 3
  | .cancelled => 4
  | .timedOut => 5

/-- Section 11.6: the method. -/
def Method.code (m : Method) : Byte :=
  match m with
  | .unsettled => 0
  | .card => 1
  | .cash => 2
  | .unpaid => 3

/-- Section 11.6: the hold state. -/
def HoldState.code (h : HoldState) : Byte :=
  match h with
  | .held => 0
  | .consumed => 1
  | .releasePending => 2
  | .released => 3

/-- R180: the result codes. -/
def ResultCode.code (r : ResultCode) : Byte :=
  match r with
  | .ok => 0x00
  | .badCommand => 0x01
  | .badArg => 0x02
  | .badState => 0x03
  | .busy => 0x04
  | .noShift => 0x05
  | .noSlot => 0x06
  | .stationBusy => 0x07
  | .privacy => 0x08
  | .noTariff => 0x09
  | .clockUnset => 0x0A
  | .serviceClosed => 0x0B
  | .notEnabled => 0x0C
  | .badImage => 0x0D
  | .openTrips => 0x0E
  | .uncollected => 0x0F
  | .mismatch => 0x10
  | .tooLate => 0x11
  | .limit => 0x12
  | .holdOpen => 0x13
  | .paying => 0x14

/-- Section 11.6: the reason codes; 0 when the outcome is ACCEPTED. -/
def reasonCode (r : Option Reason) : Byte :=
  match r with
  | none => 0
  | some .noFare => 1
  | some .stationMismatch => 2
  | some .wrongState => 3
  | some .mismatch => 4
  | some .badAmount => 5
  | some .tipOverCap => 6
  | some .late => 7
  | some .cardBlocked => 8
  | some .noHold => 9
  | some .stationBusy => 10
  | some .badMessage => 11
  | some .privacy => 12

/-- Section 11.6: the driver path byte of the intercom field. -/
def DriverPath.code (p : DriverPath) : Byte :=
  match p with
  | .free => 0
  | .talk set => set.code
  | .linked .left => 4
  | .linked .right => 5

end Sys2Proof.Machine
end

