-- ==== Sys2Proof/Machine/Operands.lean ====
section
/-! DEFINITION. The argument bytes of a command as the values they name (section 11.6, R178); a byte that has no
meaning for its command names nothing, and the command's rule gives the refusal (R180). -/

namespace Sys2Proof.Machine

/-- R5: the slot 0 to 3 an argument names. -/
def slotArg (b : Byte) : Option (Fin 4) := if h : b.toNat < 4 then some ⟨b.toNat, h⟩ else none

/-- R178: a station argument, L 1 or R 2. -/
def stationArg (b : Byte) : Option Station :=
  if b = 1 then some .left else if b = 2 then some .right else none

/-- R178: a station-set argument: 0 empty, 1 L alone, 2 R alone, 3 both. -/
def setArg (b : Byte) : Option StationSet :=
  if b = 0 then some .empty else if b = 1 then some .left else if b = 2 then some .right
  else if b = 3 then some .both else none

/-- R133: the station set of an announcement, which is not empty. -/
def talkSetArg (b : Byte) : Option StationSet := if b = 0 then none else setArg b

/-- R178: yes and ON are 1, no and OFF are 0. -/
def switchArg (b : Byte) : Option Bool := if b = 0 then some false else if b = 1 then some true else none

/-- R6: the tariff selection: CALENDAR, or MANUAL with a tariff number 1 to 8. The tariff byte of a CALENDAR
selection is not looked at (log entry 5). -/
def selectionArg (selection tariff : Byte) : Option Selection :=
  if selection = 0 then some .calendar
  else if selection = 1 ∧ 1 ≤ tariff.toNat ∧ tariff.toNat ≤ 8 then some (.manual tariff.toNat)
  else none

/-- R184: the block a WATCH names. -/
def blockArg (b : Byte) : Option WatchBlock :=
  if b.toNat = 0 then some .status
  else if h : b.toNat ≤ 4 then some (.display ⟨b.toNat - 1, by omega⟩)
  else none

/-- R103: the outcome of a PAY RESULT. -/
inductive PayOutcome where
  | approved | declined | cancelled
  deriving DecidableEq, Repr

/-- R103, section 11.6: 1 APPROVED, 2 DECLINED, 3 CANCELLED. -/
def outcomeArg (b : Byte) : Option PayOutcome :=
  if b = 1 then some .approved else if b = 2 then some .declined else if b = 3 then some .cancelled else none

/-- R68: the signed seconds of ADJUST CLOCK, −128 to +127. -/
def secondsArg (b : Byte) : Int := b.toInt

end Sys2Proof.Machine
end

