-- ==== Sys2Proof/Machine/SignOps.lean ====
section
/-! DEFINITION. The sign controller's operations (chapter 8): the derivation of the sign state, the lamps that follow
it, lamp supervision, and the alert switch tracker. -/

namespace Sys2Proof.Machine

/-- R140: every active fare has share permitted set to yes. -/
def sharesOrIdle (t : Option Trip) : Bool :=
  match t with
  | some t => !t.state.isActive || t.share
  | none => true

/-- R140: the sign state, by the first condition that holds. -/
def State.deriveSign (s : State) : SignState :=
  if s.supply.power ≠ .active then .blank
  else if s.sign.latch then .alert
  else if !s.shiftIsOpen || (!s.sign.duty && !s.anyActive) then .offDuty
  else if !s.anyActive then .free
  else if s.sign.shareAccept && s.sign.duty && s.slots.list.all sharesOrIdle && s.activeCount < 4 && s.anyFree then
    .share
  else .hired

/-- R142: the lamps a sign state drives. -/
def driven (g : SignState) : Lamps Bool :=
  match g with
  | .free => ⟨true, false, false, false⟩
  | .hired => ⟨false, true, false, false⟩
  | .share => ⟨false, true, true, false⟩
  | .offDuty => ⟨false, false, false, true⟩
  | .alert => ⟨true, true, true, true⟩
  | .blank => ⟨false, false, false, false⟩

/-- R142: the lamps that are lit: a flashing lamp in its lit periods, a steady one in every period. -/
def lit (g : SignState) (flashLit : Bool) : Lamps Bool :=
  match g with
  | .alert => ⟨flashLit, flashLit, flashLit, flashLit⟩
  | g => driven g

/-- A lamp's two run counts set to 0 (R144, R145). -/
def Lamp.countsClear (l : Lamp) : Lamp := { l with outRun := 0, inRun := 0 }

/-- R145: a lamp that stops being driven has its counts set to 0. -/
def Lamp.stopIf (stops : Bool) (l : Lamp) : Lamp := if stops then l.countsClear else l

/-- R145: a lamp that is dark has not been lit for the whole of its period. -/
def Lamp.keepWhole (lit : Bool) (l : Lamp) : Lamp := { l with whole := l.whole && lit }

/-- R142: a new period begins with the lamp lit or dark. -/
def Lamp.newPeriod (lit : Bool) (l : Lamp) : Lamp := { l with whole := lit }

/-- R142: the lamps that are driven in one sign state and not in another. -/
def stopped (old new : SignState) : Lamps Bool := (driven old).zip (fun a b => a && !b) (driven new)

/-- R142: the lamps follow a change of sign state; entry into ALERT begins a new period with all four lamps lit. -/
def Sign.change (new : SignState) (g : Sign) : Sign :=
  if new = .alert then
    { g with
      shown := .alert
      flashLit := true
      lamps := ((stopped g.shown new).zip Lamp.stopIf g.lamps).map (Lamp.newPeriod true) }
  else
    { g with
      shown := new
      lamps := (lit new true).zip Lamp.keepWhole ((stopped g.shown new).zip Lamp.stopIf g.lamps) }

/-- R141: the sign state derived again; the same state changes nothing. -/
def State.followSign (s : State) : State :=
  if s.deriveSign = s.sign.shown then s else s.onSign (·.change s.deriveSign)

/-- R145: one sample of a lamp against its health, under the filter setting. -/
def Lamp.sample (filter : Nat) (inWindow : Bool) (l : Lamp) : Lamp :=
  match l.faulted, inWindow with
  | false, false =>
    if filter ≤ l.outRun + 1 then { l with faulted := true, outRun := 0, inRun := 0 }
    else { l with outRun := l.outRun + 1 }
  | false, true => { l with outRun := 0 }
  | true, true =>
    if filter ≤ l.inRun + 1 then { l with faulted := false, outRun := 0, inRun := 0 }
    else { l with inRun := l.inRun + 1 }
  | true, false => { l with inRun := 0 }

/-- R145: a lamp gives a sample only when it was lit throughout the period. -/
def Lamp.sampleIfWhole (filter : Nat) (inWindow : Bool) (l : Lamp) : Lamp :=
  if l.whole then l.sample filter inWindow else l

/-- R145: the samples taken at the end of a period. -/
def Sign.sampled (inWindow : Lamps Bool) (g : Sign) : Lamps Lamp :=
  inWindow.zip (Lamp.sampleIfWhole g.filter) g.lamps

/-- R146: the number of lamps that become FAULTED between two rows of lamps. -/
def newFaults (before after : Lamps Lamp) : Nat :=
  ((before.zip (fun a b => !a.faulted && b.faulted) after).list).countP id

/-- R146: some lamp's health differs between two rows of lamps. -/
def healthChanged (before after : Lamps Lamp) : Bool :=
  ((before.zip (fun a b => a.faulted != b.faulted) after).list).any id

/-- R145, R146: the samples of a period's end with the LAMP event and the shift's lamp faults. -/
def State.sampleLamps (inWindow : Lamps Bool) (s : State) : State :=
  ((s.onSign (fun g => { g with lamps := g.sampled inWindow })).credit
      (fun sh => { sh with lampFaults := satAdd sh.lampFaults (newFaults s.sign.lamps (s.sign.sampled inWindow)) })).raiseIf
    (healthChanged s.sign.lamps (s.sign.sampled inWindow)) .lamp

/-- R142: the next period begins; in ALERT the flash turns from lit to dark or back. -/
def Sign.nextPeriod (g : Sign) : Sign :=
  if g.shown = .alert then
    { g with flashLit := !g.flashLit, lamps := g.lamps.map (Lamp.newPeriod (!g.flashLit)) }
  else { g with lamps := (driven g.shown).zip Lamp.newPeriod g.lamps }

/-- R144, R150: the counts of all four lamps set to 0. -/
def Sign.countsClear (g : Sign) : Sign := { g with lamps := g.lamps.map Lamp.countsClear }

/-- R144: the filter setting returns to 4 with its counts at 0. -/
def Sign.filterReset (g : Sign) : Sign := { g.countsClear with filter := 4 }

/-- R147: the alert switch tracker's step at a sample, and whether the sample raises the alert. -/
def trackAlert (t : AlertTracker) (pressed : Bool) : AlertTracker × Bool :=
  match t, pressed with
  | .up, true => (.down 1, false)
  | .up, false => (.up, false)
  | .down n, true => if n < 59 then (.down (n + 1), false) else (.held, true)
  | .down _, false => (.up, false)
  | .held, true => (.held, false)
  | .held, false => (.up, false)

end Sys2Proof.Machine
end

