-- ==== Sys2Proof/Machine/Taking.lean ====
section
/-! DEFINITION. How a dashboard command is taken and answered (R5, R179, R180), how a partition message is taken and
acknowledged (R103, R186), and the answer of a meaning. -/

namespace Sys2Proof.Machine

/-- The outcome of a command of this machine. -/
abbrev Result := Host.Outcome State Fault Refusal

/-! ### Dashboard commands -/

/-- What a taken command answers: its result, its response bytes, and what the end of its frame does. -/
structure Reply where
  result : ResultCode
  response : List Byte
  atEnd : FrameEnd
  deriving DecidableEq, Repr

/-- An accepted command: OK with its response bytes, and the state it leaves. -/
def ok (response : List Byte) (s : State) : Reply × State :=
  ({ result := .ok, response := response, atEnd := .nothing }, s)

/-- R179: a refused command: its full response length with every byte 0, and the state as it was. -/
def refuse (length : Nat) (code : ResultCode) (s : State) : Reply × State :=
  ({ result := code, response := zeros length, atEnd := .nothing }, s)

/-- R179, R185: the link takes a command: the part is ACTIVE and a command frame is in progress whose command has not
come yet. Bytes outside such a frame are not a command (log entry 6). -/
def State.serves (s : State) : Bool := s.supply.power == .active && s.dash.frame == .receiving

/-- R179: the answer held in the frame, to be clocked out after the turnaround byte; the code and the arguments are the
bytes counted (R178). -/
def State.answerFrame (args : Nat) (r : Reply) (s : State) : State :=
  s.onDash (fun d => { d with frame := .answered args r.result r.response r.atEnd, counted := args + 1 })

/-- R178, R179, R184: the bytes of a command that is not taken, ignored in the frame in progress and counted. -/
def DashLink.ignore (bytes : Nat) (d : DashLink) : DashLink :=
  if d.frame = .idle then d else { d with counted := d.counted + bytes }

/-- R179, R141: a command of `args` argument bytes taken, with the sign derived again in the same event; outside an open
command frame its bytes are ignored (log entry 6). -/
def takeCommand (args : Nat) (body : State → Reply × State) (s : State) : State :=
  if s.serves then (((body s).2).answerFrame args (body s).1).followSign else s.onDash (·.ignore (args + 1))

/-- R5: the slot check of a command that names a slot: a number outside 0 to 3, then a FREE slot. -/
def withSlot (length : Nat) (slot : Byte) (s : State) (f : Fin 4 → Trip → Reply × State) : Reply × State :=
  match slotArg slot with
  | none => refuse length .badArg s
  | some i =>
    match s.slot i with
    | none => refuse length .badState s
    | some t => f i t

/-- Section 11.6: the response of a slot command, trip number and total due of a record. -/
def tripDue (t : Trip) : List Byte := le2 t.number ++ le4 t.totalDue

/-- The response of a slot command, taken from the slot after the command. -/
def State.slotDue (s : State) (i : Fin 4) : List Byte :=
  match s.slot i with
  | some t => tripDue t
  | none => zeros 6

/-! ### Partition messages -/

/-- R186: a message is taken in ACTIVE only, whole, in one event, with the sign derived again in it (R141). -/
def takeMessage (body : State → State) (s : State) : State :=
  if s.supply.power = .active then (body s).followSign else s

/-- R103: the ACK of an accepted message, for a fare. -/
def State.accept (x : Station) (kind : Byte) (t : Trip) (s : State) : State :=
  s.post x (.ack kind none t.number t.totalDue)

/-- R103: a message refused with a reason: nothing but its ACK, which names the fare when one was found. -/
def State.deny (x : Station) (kind : Byte) (reason : Reason) (t : Option Trip) (s : State) : State :=
  match t with
  | some t => s.post x (.ack kind (some reason) t.number t.totalDue)
  | none => s.post x (.ack kind (some reason) 0 0)

/-- R103: the highest value of a reference field. -/
def referenceMax : Nat := 99999999

/-- R103: the occupied slot that holds a trip number; 0 names none. -/
def State.findTrip (s : State) (number : Nat) : Option (Fin 4) :=
  if number = 0 then none
  else slotNumbers.find? (fun i => match s.slot i with
    | some t => t.number == number
    | none => false)

/-- R103: the two first checks of a message that names a fare: NO_FARE, then STATION_MISMATCH. -/
def withFare (x : Station) (kind : Byte) (number : Nat) (s : State) (f : Fin 4 → Trip → State) : State :=
  match s.findTrip number with
  | none => s.deny x kind .noFare none
  | some i =>
    match s.slot i with
    | none => s.deny x kind .noFare none
    | some t => if t.stations.has x then f i t else s.deny x kind .stationMismatch (some t)

/-- Section 11.6: the kind bytes of the partition messages. -/
def kindHoldPlaced : Byte := 0x11
/-- Section 11.6. -/
def kindHoldReleased : Byte := 0x12
/-- Section 11.6. -/
def kindPayBegin : Byte := 0x21
/-- Section 11.6. -/
def kindPayResult : Byte := 0x22
/-- Section 11.6. -/
def kindPayVoid : Byte := 0x23
/-- Section 11.6. -/
def kindFareQuery : Byte := 0x31
/-- Section 11.6. -/
def kindSelector : Byte := 0x40

end Sys2Proof.Machine
end

