-- ==== Sys2Proof/Machine/Calendar.lean ====
section
/-! DEFINITION. The calendar (chapter 4): the evaluation of the schedule (R75 to R77), the rollover's stamp (R62, R63),
and SET CLOCK, ADJUST CLOCK and READ CLOCK. -/

namespace Sys2Proof.Machine

/-- The calendar with its time replaced and the weekday derived from the new date (R62). -/
def Calendar.setTime (t : Stamp) (c : Calendar) : Calendar := { c with time := t, weekday := weekdayOf t }

/-- R65: the clock-set flag cleared by a wrap; the calendar tariff and the deciding window become absent. -/
def Calendar.clear (c : Calendar) : Calendar := { c with clockSet := false, tariff := none, deciding := none }

/-- R63, R65: what a wrap through the end of the range does, when there was one. -/
def Calendar.clearIf (wrapped : Bool) (c : Calendar) : Calendar := if wrapped then c.clear else c

/-- R76: the image an evaluation reads: the active image while it is VALID, the read copy during a commit write that
began from a VALID image; none when no evaluation is made. -/
def State.scheduleImage (s : State) : Option Image :=
  if s.cal.clockSet then
    match s.store.state, s.store.readCopy with
    | .commitWrite, some copy => if copy.valid then some copy.image else none
    | .commitWrite, none => none
    | _, _ => if s.store.valid then some s.store.active else none
  else none

/-- R77: an evaluation's result taken: a new tariff number is a switch, handed to the fare engine in the same event; the
same number only updates the deciding window. -/
def State.takeTariff (tariff : Nat) (deciding : Deciding) (s : State) : State :=
  if s.cal.tariff = some tariff then s.onCal (fun c => { c with deciding := some deciding })
  else
    forSlots (State.switchSlot tariff)
      ((s.onCal (fun c => { c with tariff := some tariff, deciding := some deciding })).raise .tariffSwitch)

/-- R76: the schedule evaluated for the minute of the calendar's time. -/
def State.evaluate (s : State) : State :=
  match s.scheduleImage with
  | none => s
  | some img => s.takeTariff (decideTariff img s.cal.time).1 (decideTariff img s.cal.time).2

/-- R62, R63: a second rollover advances the stamp; the rollover at the end of the range clears the clock-set flag. -/
def State.tickCalendar (s : State) : State :=
  s.onCal (fun c => (c.setTime (nextSecond c.time)).clearIf (c.time = lastStamp))

/-- The calendar tariff as a byte, 0 when absent. -/
def Calendar.tariffByte (c : Calendar) : Byte := byte (c.tariff.getD 0)

/-! ### SET CLOCK -/

/-- R67: an accepted SET CLOCK. -/
def State.setClock (t : Stamp) (s : State) : State :=
  (s.onCal (fun c => { c.setTime t with clockSet := true })).evaluate

/-- R66, R67: SET CLOCK. -/
def setClockBody (t : Stamp) (s : State) : Reply × State :=
  if !s.store.switchOpen then refuse 1 .serviceClosed s
  else if s.anyOccupied then refuse 1 .openTrips s
  else if !t.valid then refuse 1 .badArg s
  else ok [(s.setClock t).cal.tariffByte] (s.setClock t)

/-- SET CLOCK (R66, R67). -/
def execSetClock (year : Half) (month day hour minute second : Byte) (s : State) : Result :=
  .next (takeCommand 7 (setClockBody
    ⟨year.toNat, month.toNat, day.toNat, hour.toNat, minute.toNat, second.toNat⟩) s)

/-! ### ADJUST CLOCK -/

/-- R68: the applied amount: the request clamped to ±120, then reduced in size to the allowance, its sign kept. -/
def appliedAmount (request : Int) (allowance : Nat) : Int :=
  if 0 ≤ request then (min (min request.toNat 120) allowance : Nat) else -((min (min request.natAbs 120) allowance : Nat) : Int)

/-- R69: an accepted ADJUST CLOCK by the applied amount. -/
def State.adjustClock (applied : Int) (s : State) : State :=
  ((s.onCal (fun c => (c.setTime (moveBy applied c.time).1).clearIf (moveBy applied c.time).2)).credit
    (fun sh => { sh with allowance := sh.allowance - applied.natAbs, adjustmentSum := sh.adjustmentSum + applied })).evaluate

/-- R68, R69: ADJUST CLOCK. -/
def adjustClockBody (request : Int) (s : State) : Reply × State :=
  match s.shift with
  | none => refuse 2 .noShift s
  | some sh =>
    if sh.state = .closing then refuse 2 .noShift s
    else if !s.cal.clockSet then refuse 2 .clockUnset s
    else if s.runningCount ≠ 0 then refuse 2 .badState s
    else
      ok [signedByte (appliedAmount request sh.allowance),
          byte (sh.allowance - (appliedAmount request sh.allowance).natAbs)]
        (s.adjustClock (appliedAmount request sh.allowance))

/-- ADJUST CLOCK (R68, R69). -/
def execAdjustClock (seconds : Byte) (s : State) : Result :=
  .next (takeCommand 1 (adjustClockBody (secondsArg seconds)) s)

/-! ### READ CLOCK -/

/-- Section 11.6: the eleven bytes of READ CLOCK. -/
def clockBytes (c : Calendar) : List Byte :=
  stampBytes c.time ++ [byte c.weekday.number, flagByte c.clockSet, c.tariffByte, decidingCode c.deciding]

/-- READ CLOCK (R78). -/
def execReadClock (s : State) : Result := .next (takeCommand 0 (fun s => ok (clockBytes s.cal) s) s)

end Sys2Proof.Machine
end

