-- ==== Sys2Proof/Machine/Intercom.lean ====
section
/-! DEFINITION. The partition intercom (chapter 7): the driver path and its chimes, the call buttons, the timers, and
what the other blocks ask of it. Each operation here changes the intercom's own state alone. -/

namespace Sys2Proof.Machine

/-! ### One station -/

/-- What the intercom holds for a station. -/
def Intercom.line (c : Intercom) (x : Station) : StationLine := c.stations.get x

/-- The intercom with one station's line changed. -/
def Intercom.onLine (x : Station) (f : StationLine → StationLine) (c : Intercom) : Intercom :=
  { c with stations := c.stations.set x (f (c.stations.get x)) }

/-- The intercom with both stations' lines changed. -/
def Intercom.onLines (f : StationLine → StationLine) (c : Intercom) : Intercom :=
  { c with stations := ⟨f c.stations.left, f c.stations.right⟩ }

/-- The station is CALLING. -/
def Intercom.isCalling (c : Intercom) (x : Station) : Bool := (c.line x).state == .calling

/-- The station is CONNECTED. -/
def Intercom.isConnected (c : Intercom) (x : Station) : Bool := (c.line x).state == .connected

/-- The station is in the set of an announcement. -/
def Intercom.inTalk (c : Intercom) (x : Station) : Bool :=
  match c.path with
  | .talk set => set.has x
  | _ => false

/-! ### Call chimes (R127) -/

/-- R127: the length of a call chime, 20 periods of 50 ms. -/
def callChimeLength : Nat := 20

/-- R135: the length of a fare chime, 40 periods of 50 ms. -/
def fareChimeLength : Nat := 40

/-- R127: the call chime of a station sounded at once, or queued behind the tone of the other station. A new call of
the station whose own tone still sounds starts that tone afresh (log entry 12). -/
def Intercom.sound (x : Station) (c : Intercom) : Intercom :=
  match c.tone with
  | none => { c with tone := some { station := x, left := callChimeLength, queued := none } }
  | some t =>
    if t.station = x then { c with tone := some { t with left := callChimeLength } }
    else { c with tone := some { t with queued := some x } }

/-- R127: a deferred call chime sounded, if its station is still CALLING. -/
def Intercom.soundDeferred (x : Station) (c : Intercom) : Intercom :=
  if c.isCalling x && (c.line x).deferred then (c.onLine x (fun l => { l with deferred := false })).sound x else c

/-- R127: the driver path becomes FREE; its timers stop and the deferred call chimes sound, L first. -/
def Intercom.freePath (c : Intercom) : Intercom :=
  ({ c with path := .free, connectionTimer := 0, talkTimer := 0 }.soundDeferred .left).soundDeferred .right

/-- R127: the driver path leaves FREE; a sounding call chime is cut off and a queued tone becomes deferred. -/
def Intercom.cutTone (c : Intercom) : Intercom :=
  match c.tone with
  | none => c
  | some t =>
    match t.queued with
    | none => { c with tone := none }
    | some q =>
      if c.isCalling q then { c with tone := none }.onLine q (fun l => { l with deferred := true })
      else { c with tone := none }

/-- R127: a tone queued for the station is dropped. -/
def Intercom.dropQueued (x : Station) (c : Intercom) : Intercom :=
  { c with tone := c.tone.map (fun t => if t.queued = some x then { t with queued := none } else t) }

/-- A station leaves CALLING: its call timer stops, its deferred chime and its queued tone are dropped (R127, R128). -/
def Intercom.leaveCalling (x : Station) (c : Intercom) : Intercom :=
  (c.onLine x (fun l => { l with callTimer := 0, deferred := false })).dropQueued x

/-- R127: the sounding call chime ends; a queued tone sounds if the path is still FREE and its station CALLING. -/
def Intercom.endTone (c : Intercom) : Intercom :=
  match c.tone with
  | none => c
  | some t =>
    match t.queued with
    | none => { c with tone := none }
    | some q =>
      if c.path == .free && c.isCalling q then
        { c with tone := some { station := q, left := callChimeLength, queued := none } }
      else { c with tone := none }

/-! ### Fare chimes (R135) -/

/-- R135: a fare chime requested for a station: it sounds at once unless the driver is heard there. -/
def Intercom.chime (kind : ChimeKind) (x : Station) (c : Intercom) : Intercom :=
  if c.isConnected x || c.inTalk x then c
  else c.onLine x (fun l => { l with fareChime := some { kind := kind, left := fareChimeLength } })

/-- A fare chime requested at each station of a set. -/
def Intercom.chimeAll (kind : ChimeKind) (set : StationSet) (c : Intercom) : Intercom :=
  set.members.foldl (fun c x => c.chime kind x) c

/-- A fare chime sounding at a station is cut off or has ended. -/
def Intercom.silence (x : Station) (c : Intercom) : Intercom := c.onLine x (fun l => { l with fareChime := none })

/-- The fare chimes at the stations of a set are cut off. -/
def Intercom.silenceAll (set : StationSet) (c : Intercom) : Intercom := set.members.foldl (fun c x => c.silence x) c

/-! ### The driver's conversation and announcement -/

/-- R129, R130: the length of a conversation. -/
def connectionLength : Nat := 180

/-- R126: the length of a call. -/
def callLength : Nat := 30

/-- R133: the length of an announcement. -/
def talkLength : Nat := 30

/-- The station becomes CONNECTED and the path LINKED to it (R122); its fare chime is cut off (R135). -/
def Intercom.connect (x : Station) (c : Intercom) : Intercom :=
  { (c.onLine x (fun l => { l with state := .connected, fareChime := none })) with
    path := .linked x, connectionTimer := connectionLength }

/-- A station becomes IDLE. -/
def Intercom.makeIdle (x : Station) (c : Intercom) : Intercom := c.onLine x (fun l => { l with state := .idle })

/-- The call chime cut off when the path is FREE and is about to leave it. -/
def Intercom.cutIfFree (c : Intercom) : Intercom := if c.path = .free then c.cutTone else c

/-- The other station left behind when the path is LINKED to it (R129). -/
def Intercom.leaveOther (x : Station) (c : Intercom) : Intercom :=
  if c.path = .linked x.other then c.makeIdle x.other else c

/-- R129: an accepted ANSWER. -/
def Intercom.answer (x : Station) (c : Intercom) : Intercom :=
  (((c.leaveCalling x).cutIfFree).leaveOther x).connect x

/-- R130: an accepted OPEN: an IDLE station is connected, a CONNECTED one has its timer set back. -/
def Intercom.openTo (x : Station) (c : Intercom) : Intercom :=
  if c.isConnected x then { c with connectionTimer := connectionLength } else (c.cutTone).connect x

/-- R131: a conversation ends. -/
def Intercom.close (x : Station) (c : Intercom) : Intercom := (c.makeIdle x).freePath

/-- R133: an announcement starts. -/
def Intercom.talk (set : StationSet) (c : Intercom) : Intercom :=
  { (c.cutTone).silenceAll set with path := .talk set, talkTimer := talkLength }

/-- R126, R127: a call at an IDLE station. -/
def Intercom.call (x : Station) (c : Intercom) : Intercom :=
  if c.path = .free then
    (c.onLine x (fun l => { l with state := .calling, callTimer := callLength })).sound x
  else c.onLine x (fun l => { l with state := .calling, callTimer := callLength, deferred := true })

/-- R125: a privacy toggle. -/
def Intercom.togglePrivacy (x : Station) (c : Intercom) : Intercom :=
  c.onLine x (fun l => { l with privacy := !l.privacy })

/-- R23: one station returned to IDLE by its unbinding, with privacy off and its call dropped. -/
def Intercom.unbindOne (x : Station) (c : Intercom) : Intercom :=
  (c.leaveCalling x).onLine x (fun l => { l with state := .idle, privacy := false })

/-- The path is LINKED to a station of the set. -/
def Intercom.linkedWithin (c : Intercom) (set : StationSet) : Bool :=
  match c.path with
  | .linked x => set.has x
  | _ => false

/-- R23: the stations of a set unbound in one event; a path LINKED to one of them becomes FREE, which sounds the
deferred chime of a station that is still CALLING (log entry 13). -/
def Intercom.unbind (set : StationSet) (c : Intercom) : Intercom :=
  if c.linkedWithin set then (set.members.foldl (fun c x => c.unbindOne x) c).freePath
  else set.members.foldl (fun c x => c.unbindOne x) c

/-! ### Power states and resets (R137, R138) -/

/-- Every chime stops. -/
def Intercom.silent (c : Intercom) : Intercom := { c with tone := none }.onLines (fun l => { l with fareChime := none })

/-- R137: every station IDLE and the path FREE, timers stopped, deferred chimes dropped, chimes cut off. -/
def Intercom.allIdle (c : Intercom) : Intercom :=
  { c.silent with path := .free, connectionTimer := 0, talkTimer := 0 }.onLines
    (fun l => { l with state := .idle, callTimer := 0, deferred := false })

/-- R124: both button trackers set to LONG. -/
def Intercom.trackersLong (c : Intercom) : Intercom := c.onLines (fun l => { l with tracker := .long })

/-- R138: a link reset releases an announcement and keeps everything else. -/
def Intercom.linkReset (c : Intercom) : Intercom :=
  match c.path with
  | .talk _ => c.freePath
  | _ => c

/-! ### 50 ms periods (log entry 11) -/

/-- One period of the sounding call chime. -/
def Intercom.tonePeriod (c : Intercom) : Intercom :=
  match c.tone with
  | none => c
  | some t => if t.left ≤ 1 then c.endTone else { c with tone := some { t with left := t.left - 1 } }

/-- One period of a fare chime. -/
def chimeTick (f : Option FareChime) : Option FareChime :=
  match f with
  | none => none
  | some f => if f.left ≤ 1 then none else some { f with left := f.left - 1 }

/-- R127: one 50 ms period of every chime that sounds. -/
def Intercom.period (c : Intercom) : Intercom :=
  (c.onLines (fun l => { l with fareChime := chimeTick l.fareChime })).tonePeriod

/-! ### The call buttons (R124) -/

/-- What a sample of a call button brings about. -/
inductive ButtonAction where
  | nothing | call | privacy
  deriving DecidableEq, Repr

/-- R124: a tracker's step at a sample, and the action the sample takes. -/
def trackButton (t : ButtonTracker) (pressed : Bool) : ButtonTracker × ButtonAction :=
  match t, pressed with
  | .up, true => (.down 1, .nothing)
  | .up, false => (.up, .nothing)
  | .down n, true => if n < 39 then (.down (n + 1), .nothing) else (.long, .privacy)
  | .down _, false => (.up, .call)
  | .long, true => (.long, .nothing)
  | .long, false => (.up, .nothing)

/-- Section 11.6: the three bytes of the intercom field: states and privacy of L and R, and the driver path. -/
def stationByte (l : StationLine) : Nat :=
  (match l.state with
   | .idle => 0
   | .calling => 1
   | .connected => 2) + (if l.privacy then 128 else 0)

end Sys2Proof.Machine
end

