-- ==== Sys2Proof/Machine/IntercomCommands.lean ====
section
/-! DEFINITION. The intercom's commands and events (sections 7.2 to 7.5): ANSWER, OPEN, CLOSE, TALK PRESS, TALK RELEASE,
the call buttons, the timer expiries and the chime ends. -/

namespace Sys2Proof.Machine

/-- Section 11.6: the three bytes of the intercom field. -/
def intercomField (c : Intercom) : List Byte :=
  [byte (stationByte c.stations.left), byte (stationByte c.stations.right), c.path.code]

/-- An accepted intercom command answers with the intercom field after it (section 7.4). -/
def okIntercom (f : Intercom → Intercom) (s : State) : Reply × State := ok (intercomField (f s.ic)) (s.onIc f)

/-- R129: the path is in TALK. -/
def DriverPath.isTalk (p : DriverPath) : Bool :=
  match p with
  | .talk _ => true
  | _ => false

/-- R129: ANSWER. -/
def answerBody (station : Byte) (s : State) : Reply × State :=
  match stationArg station with
  | none => refuse 3 .badArg s
  | some x =>
    if !s.ic.isCalling x then refuse 3 .badState s
    else if s.ic.path.isTalk then refuse 3 .busy s
    else okIntercom (·.answer x) s

/-- ANSWER (R129). -/
def execAnswer (station : Byte) (s : State) : Result := .next (takeCommand 1 (answerBody station) s)

/-- R130: OPEN. -/
def openBody (station : Byte) (s : State) : Reply × State :=
  match stationArg station with
  | none => refuse 3 .badArg s
  | some x =>
    if !s.isBound x || s.ic.isCalling x then refuse 3 .badState s
    else if (s.ic.line x).privacy then refuse 3 .privacy s
    else if !s.ic.isConnected x && s.ic.path != .free then refuse 3 .busy s
    else okIntercom (·.openTo x) s

/-- OPEN (R130). -/
def execOpen (station : Byte) (s : State) : Result := .next (takeCommand 1 (openBody station) s)

/-- R131: CLOSE. -/
def closeBody (station : Byte) (s : State) : Reply × State :=
  match stationArg station with
  | none => refuse 3 .badArg s
  | some x => if s.ic.isConnected x then okIntercom (·.close x) s else refuse 3 .badState s

/-- CLOSE (R131). -/
def execClose (station : Byte) (s : State) : Result := .next (takeCommand 1 (closeBody station) s)

/-- R133: TALK PRESS. -/
def talkPressBody (set : Byte) (s : State) : Reply × State :=
  match talkSetArg set with
  | none => refuse 3 .badArg s
  | some g => if s.ic.path = .free then okIntercom (·.talk g) s else refuse 3 .busy s

/-- TALK PRESS (R133). -/
def execTalkPress (set : Byte) (s : State) : Result := .next (takeCommand 1 (talkPressBody set) s)

/-- R133: TALK RELEASE. -/
def talkReleaseBody (s : State) : Reply × State :=
  if s.ic.path.isTalk then okIntercom Intercom.freePath s else refuse 3 .badState s

/-- TALK RELEASE (R133). -/
def execTalkRelease (s : State) : Result := .next (takeCommand 0 talkReleaseBody s)

/-! ### The call buttons -/

/-- R126: a call at a station: only an IDLE station starts to call. -/
def State.call (x : Station) (s : State) : State :=
  if (s.ic.line x).state = .idle then (s.onIc (·.call x)).raise .call else s

/-- R124: the action of a sample, taken only when the station is bound at that moment. -/
def State.buttonAction (x : Station) (a : ButtonAction) (s : State) : State :=
  if s.isBound x then
    match a with
    | .nothing => s
    | .call => s.call x
    | .privacy => s.onIc (·.togglePrivacy x)
  else s

/-- R124: a sample of a call button moves its tracker and takes its action. -/
def State.sampleButton (x : Station) (pressed : Bool) (s : State) : State :=
  (s.onIc (·.onLine x (fun l => { l with tracker := (trackButton l.tracker pressed).1 }))).buttonAction x
    (trackButton (s.ic.line x).tracker pressed).2

/-- A 50 ms sample of a call button, taken in ACTIVE (R124). -/
def execButtonSample (x : Station) (pressed : Bool) (s : State) : Result :=
  .next (if s.supply.power = .active then s.sampleButton x pressed else s)

/-! ### Timers (R128, R132, R134) -/

/-- R128: the call timer expiry of a station. -/
def State.callExpires (x : Station) (s : State) : State :=
  ((s.onIc (fun c => (c.leaveCalling x).makeIdle x)).credit
    (fun sh => { sh with missedCalls := satAdd sh.missedCalls 1 })).raise .callMissed

/-- R128: a rollover at the call timer of a CALLING station. -/
def State.callTick (x : Station) (s : State) : State :=
  if s.ic.isCalling x then
    if (s.ic.line x).callTimer ≤ 1 then s.callExpires x
    else s.onIc (·.onLine x (fun l => { l with callTimer := l.callTimer - 1 }))
  else s

/-- R132: a rollover at the connection timer: at its expiry the conversation ends as by CLOSE. -/
def Intercom.connectionTick (c : Intercom) : Intercom :=
  match c.path with
  | .linked x => if c.connectionTimer ≤ 1 then c.close x else { c with connectionTimer := c.connectionTimer - 1 }
  | _ => c

/-- R134: a rollover at the talk timer: at its expiry the path becomes FREE as by TALK RELEASE. -/
def Intercom.talkTick (c : Intercom) : Intercom :=
  match c.path with
  | .talk _ => if c.talkTimer ≤ 1 then c.freePath else { c with talkTimer := c.talkTimer - 1 }
  | _ => c

/-- The intercom's timers at a rollover taken in ACTIVE: call timers, then the path's timer (log entry 10). -/
def State.intercomTick (s : State) : State :=
  ((s.callTick .left).callTick .right).onIc (fun c => match c.path with
    | .linked _ => c.connectionTick
    | .talk _ => c.talkTick
    | .free => c)

/-- The call timer of a station reaches 0 (R128): the intercom's own taking of the rollover that does so (log entry 9). -/
def execCallTimerExpiry (x : Station) (s : State) : Result :=
  .next (if s.supply.power = .active ∧ s.ic.isCalling x = true ∧ (s.ic.line x).callTimer ≤ 1 then s.callExpires x else s)

/-- The connection timer reaches 0 (R132; log entry 9). -/
def execConnectionExpiry (s : State) : Result :=
  .next (if s.supply.power = .active ∧ s.ic.connectionTimer ≤ 1 then s.onIc Intercom.connectionTick else s)

/-- The talk timer reaches 0 (R134; log entry 9). -/
def execTalkExpiry (s : State) : Result :=
  .next (if s.supply.power = .active ∧ s.ic.talkTimer ≤ 1 then s.onIc Intercom.talkTick else s)

/-- The sounding call chime's periods end (R127; log entry 11). -/
def execCallChimeEnd (s : State) : Result :=
  .next (if s.supply.power = .active then s.onIc Intercom.endTone else s)

/-- A fare chime's periods end (R135; log entry 11). -/
def execFareChimeEnd (x : Station) (s : State) : Result :=
  .next (if s.supply.power = .active then s.onIc (·.silence x) else s)

end Sys2Proof.Machine
end

