-- ==== Sys2Proof/Machine/StoreOps.lean ====
section
/-! DEFINITION. The tariff store's operations (chapter 5): the mirror copies (R90), the start, the outcomes and the
interruption of a store write (R91 to R96), and the service switch filter (R82). -/

namespace Sys2Proof.Machine

/-- R92: a store write is in progress. -/
def Store.busy (t : Store) : Bool := t.state != .idle

/-- R90: a copy with sequence number `a` is current beside one with `b`. -/
def isCurrent (a b : Nat) : Bool :=
  a != 0 && ((b < a && !(a == countMax && b == 1)) || (a == 1 && b == countMax))

/-- R90: the current copy, when there is one. -/
def Mirror.current (m : Mirror) : Option CopyName :=
  if isCurrent m.first.sequence m.second.sequence then some .first
  else if isCurrent m.second.sequence m.first.sequence then some .second
  else none

/-- A copy of the mirror by name. -/
def Mirror.get (m : Mirror) (c : CopyName) : MirrorCopy :=
  match c with
  | .first => m.first
  | .second => m.second

/-- The mirror with one copy replaced. -/
def Mirror.set (m : Mirror) (c : CopyName) (x : MirrorCopy) : Mirror :=
  match c with
  | .first => { m with first := x }
  | .second => { m with second := x }

/-- The other copy's name. -/
def CopyName.other (c : CopyName) : CopyName :=
  match c with
  | .first => .second
  | .second => .first

/-- R90: the mirror's value; with no current copy every totalizer reads 0. -/
def Mirror.value (m : Mirror) : Totalizers :=
  match m.current with
  | some c => (m.get c).totals
  | none => zeroTotals

/-- R90: the copy a write goes to: the one that is not current, or the first when neither is. -/
def Mirror.target (m : Mirror) : CopyName :=
  match m.current with
  | some c => c.other
  | none => .first

/-- R90: the sequence number a write carries, by that of the other copy. -/
def nextSequence (other : Nat) : Nat := if other = 0 ∨ other = countMax then 1 else other + 1

/-- A copy's sequence number set to 0; its figures stay and are not read (R90). -/
def Mirror.unset (m : Mirror) (c : CopyName) : Mirror := m.set c { m.get c with sequence := 0 }

/-- R91: the write that a store begins, carrying an image (for a commit) and totalizers. -/
def Store.newWrite (image : Option Image) (totals : Totalizers) (t : Store) : StoreWrite :=
  { image := image, totals := totals, copy := t.mirror.target,
    sequence := nextSequence (t.mirror.get t.mirror.target.other).sequence }

/-- R91: the totalizers a commit write carries, with tariff commits one higher. -/
def committedTotals (tot : Totalizers) : Totalizers := { tot with tariffCommits := satAdd tot.tariffCommits 1 }

/-- R91: a commit write begins. -/
def Store.beginCommit (tot : Totalizers) (t : Store) : Store :=
  { t with
    state := .commitWrite
    readCopy := some { image := t.active, valid := t.valid }
    marker := some .commit
    valid := false
    mirror := t.mirror.unset t.mirror.target
    write := some (t.newWrite (some t.staging) (committedTotals tot)) }

/-- R91: a mirror write begins. -/
def Store.beginMirror (tot : Totalizers) (t : Store) : Store :=
  { t with
    state := .mirrorWrite
    marker := some .mirror
    mirror := t.mirror.unset t.mirror.target
    write := some (t.newWrite none tot) }

/-- R93, R95: the copy written takes the figures carried and its sequence number. -/
def Store.completeMirror (w : StoreWrite) (t : Store) : Store :=
  { t with mirror := t.mirror.set w.copy { totals := w.totals, sequence := w.sequence } }

/-- R93, R94, R95: the write has ended: marker and read copy absent, the store IDLE. -/
def Store.endWrite (t : Store) : Store := { t with marker := none, readCopy := none, write := none, state := .idle }

/-- R81: the version after a successful commit. -/
def nextVersion (v : Nat) : Nat := if v = 65535 then 0 else v + 1

/-- R93: the store after a commit write that verified. -/
def Store.commitDone (w : StoreWrite) (t : Store) : Store :=
  { ((t.completeMirror w).endWrite) with
    active := w.image.getD t.active
    valid := true
    version := nextVersion t.version
    latch := false }

/-- R94: the store after a commit write that failed verify. -/
def Store.commitFailed (t : Store) : Store := { t.endWrite with valid := false, latch := false }

/-- R96: a store write interrupted by supply loss; the marker stays. -/
def Store.interrupt (t : Store) : Store := { t with state := .idle, readCopy := none, write := none }

/-- R87, R97: what a link reset, a supply return and a cold start clear: the latch, and staging with its flag. -/
def Store.clearStaging (t : Store) : Store := { t with latch := false, stagingLoaded := false, staging := blankImage }

/-- R82: the number of consecutive samples that change the switch state. -/
def switchSamples : Nat := 3

/-- R82: a sample of SVC against the switch state; the latch is cleared when the state becomes CLOSED (R83). -/
def Store.sampleSwitch (high : Bool) (t : Store) : Store :=
  match t.switchOpen, high with
  | false, true =>
    if switchSamples ≤ t.switchRun + 1 then { t with switchOpen := true, switchRun := 0 }
    else { t with switchRun := t.switchRun + 1 }
  | false, false => { t with switchRun := 0 }
  | true, false =>
    if switchSamples ≤ t.switchRun + 1 then { t with switchOpen := false, switchRun := 0, latch := false }
    else { t with switchRun := t.switchRun + 1 }
  | true, true => { t with switchRun := 0 }

end Sys2Proof.Machine
end

