-- ==== Sys2Proof/Machine/Blocks.lean ====
section
/-! DEFINITION. The blocks the links read out (section 11.6): STATUS, DISPLAY, trip record, shift record, totalizers,
identity, and the sixteen bytes of a notice. -/

namespace Sys2Proof.Machine

/-! ### Trip record and DISPLAY -/

/-- DISPLAY byte 16: segments-full, saturated, distance-fault, power-paused. -/
def tripFlags (t : Trip) : Byte := flagsByte [t.segmentsFull, t.saturated, t.distanceFault, t.powerPaused]

/-- The twenty bytes of one segment. -/
def segmentBytes (g : Segment) : List Byte :=
  byte g.tariff :: (stampBytes g.start ++ le4 g.metres ++ le4 g.seconds ++ le4 g.steps)

/-- The bytes of a list of records laid into `room` places of `size` bytes, unused places reading 0. -/
def fill (room size : Nat) (bytes : List Byte) : List Byte := (bytes ++ zeros (room * size)).take (room * size)

/-- Bytes 154 to 169 of the trip record block: the payment sub-record, reading 0 when absent. -/
def paymentBytes (p : Option Payment) : List Byte :=
  match p with
  | none => zeros 16
  | some p =>
    [p.method.code, p.attempt.code, byte p.declines] ++ le4 (p.cardRef.getD 0) ++ le4 p.captured ++ le4 p.tip
      ++ [byte p.timer]

/-- Bytes 170 to 180 of the trip record block: the hold, reading 0 when absent. -/
def holdBytes (h : Option Hold) : List Byte :=
  match h with
  | none => zeros 11
  | some h => le4 h.reference ++ le4 h.amount ++ [h.station.code, h.state.code, flagByte h.warned]

/-- Byte 14 of the trip record block: what is present. -/
def presentByte (t : Trip) : Byte :=
  flagsByte [t.stop.isSome, t.grace.isSome, t.payment.isSome, t.hold.isSome, (t.payment.bind (·.cardRef)).isSome]

/-- Bytes 5 and 6 of the trip record block. -/
def selectionBytes (sel : Selection) : List Byte :=
  match sel with
  | .calendar => [0, 0]
  | .manual t => [1, byte t]

/-- R17, section 11.6: the trip record block of 181 bytes. -/
def tripBlock (t : Trip) : List Byte :=
  slotCode (some t.state) :: le2 t.number
    ++ [t.stations.code, flagByte t.share]
    ++ selectionBytes t.selection
    ++ stampBytes t.start
    ++ [presentByte t]
    ++ optStampBytes t.stop
    ++ [tripFlags t]
    ++ le4 t.progress ++ [byte t.remainder, byte t.window, byte t.freeSteps]
    ++ le4 t.flagFall ++ le4 t.stepTotal ++ le4 t.extrasTotal ++ le4 t.totalDue
    ++ le4 t.hiredMetres ++ le4 t.hiredSeconds
    ++ [byte ((t.grace.map (·.count)).getD 0), flagByte ((t.grace.map (·.attempted)).getD false)]
    ++ [byte t.segments.length] ++ fill 4 20 (t.segments.flatMap segmentBytes)
    ++ [byte t.extras.length] ++ fill 8 2 (t.extras.flatMap (fun e => [byte e.kind, byte e.count]))
    ++ paymentBytes t.payment ++ holdBytes t.hold

/-- Section 11.6: the DISPLAY block of 20 bytes; a FREE slot reads as all zeros (R184). -/
def displayBlock (t : Option Trip) : List Byte :=
  match t with
  | none => zeros 20
  | some t =>
    slotCode (some t.state) :: le2 t.number ++ le4 t.totalDue ++ le4 t.hiredMetres ++ le4 t.hiredSeconds
      ++ [byte t.currentTariff, tripFlags t]
      ++ [match t.payment with
          | some p => p.attempt.code
          | none => 0xFF]
      ++ [byte ((t.payment.map (·.timer)).getD 0)]
      ++ [match t.grace with
          | some g => byte g.count
          | none => 0xFF]

/-! ### STATUS -/

/-- STATUS byte 0. -/
def State.statusFlags (s : State) : Byte :=
  flagsByte [s.supply.lastCold, s.supply.ignitionOn, s.cal.clockSet, s.sign.latch, s.sign.duty, s.sign.shareAccept,
    s.dist.faulted, s.store.switchOpen]

/-- R81: the validity flag as the STATUS block shows it: 0 INVALID, 1 VALID, 2 PENDING. -/
def Store.shownFlag (t : Store) : Nat :=
  match t.state with
  | .commitWrite => 2
  | _ => if t.valid then 1 else 0

/-- STATUS byte 1. -/
def Store.statusByte (t : Store) : Byte :=
  flagsByte [t.latch, t.stagingLoaded, t.busy] ||| (byte t.shownFlag <<< 3)

/-- STATUS bytes 19 and 20: the slot bound to a station, 0xFF when unbound. -/
def State.boundByte (s : State) (x : Station) : Byte :=
  match s.boundSlot x with
  | some i => byte i.val
  | none => 0xFF

/-- The shift number of a record, 0 when absent. -/
def shiftNumberOf (sh : Option Shift) : Nat := (sh.map (·.number)).getD 0

/-- R183, section 11.6: the STATUS block of 30 bytes. -/
def State.statusBlock (s : State) : List Byte :=
  [s.statusFlags, s.store.statusByte, s.sign.shown.code, flagsByte ((s.sign.lamps.map (·.faulted)).list),
    byte s.sign.filter]
    ++ le2 s.store.version ++ stampBytes s.cal.time ++ [s.cal.tariffByte, decidingCode s.cal.deciding]
    ++ intercomField s.ic ++ [s.boundByte .left, s.boundByte .right]
    ++ s.slots.list.map (fun t => slotCode (t.map (·.state)))
    ++ [shiftCode (s.shift.map (·.state))] ++ le2 (shiftNumberOf s.shift) ++ le2 (shiftNumberOf s.prev)

/-- R184: the block a watch names, as it stands. -/
def State.watchedBlock (s : State) (b : WatchBlock) : List Byte :=
  match b with
  | .status => s.statusBlock
  | .display i => displayBlock (s.slot i)

/-! ### Shift record and totalizers -/

/-- R162, section 11.6: the shift record block of 122 bytes. -/
def shiftBlock (sh : Shift) : List Byte :=
  shiftCode (some sh.state) :: le2 sh.number ++ le4 sh.driver ++ stampBytes sh.openStamp
    ++ [flagsByte [sh.closeStamp.isSome, sh.firstFault.isSome]]
    ++ optStampBytes sh.closeStamp ++ le2 sh.nextTrip
    ++ le4 sh.tripsStarted ++ le4 sh.cardSettlements ++ le4 sh.cashSettlements ++ le4 sh.unpaidSettlements
    ++ le4 sh.voids ++ le4 sh.declines
    ++ le4 sh.flagFallTotal ++ le4 sh.stepTotal ++ le4 sh.extrasTotal
    ++ le4 sh.cardFares ++ le4 sh.cashFares ++ le4 sh.unpaidFares ++ le4 sh.tips
    ++ le4 sh.hiredMetres ++ le4 sh.totalMetres ++ le4 sh.hiredSeconds ++ le4 sh.breakSeconds
    ++ le4 sh.overspeedSeconds ++ le4 sh.sensorFaults ++ le4 sh.lampFaults ++ le4 sh.alerts ++ le4 sh.missedCalls
    ++ optStampBytes sh.firstFault ++ signedLe2 sh.adjustmentSum ++ [byte sh.allowance]

/-- R166, section 11.6: the totalizer block of 40 bytes. -/
def totalizerBlock (t : Totalizers) : List Byte :=
  le4 t.totalMetres ++ le4 t.hiredMetres ++ le4 t.hirings ++ le4 t.tripsCompleted ++ le4 t.moneyCharged
    ++ le4 t.tariffCommits ++ le4 t.serviceOpenings ++ le4 t.supplyInterruptions ++ le4 t.coldStarts
    ++ le4 t.shiftCounter

/-- R183: vendor code, part code, silicon revision, image version, serial number. -/
def identityBytes (version serial : Nat) : List Byte := le2 0x5E17 ++ le2 0x2640 ++ [0x01] ++ le2 version ++ le3 serial

/-! ### Notices -/

/-- The bytes of a notice after kind and station. -/
def noticeBody (n : Notice) : List Byte :=
  match n with
  | .fare trip state due => le2 trip ++ [slotCode state] ++ le4 due
  | .topUp trip due reference amount => le2 trip ++ le4 due ++ le4 reference ++ le4 amount
  | .due trip due => le2 trip ++ le4 due
  | .ack kind reason trip due =>
    [kind, flagByte reason.isSome, reasonCode reason] ++ le2 trip ++ le4 due
  | .releaseHold trip reference amount => le2 trip ++ le4 reference ++ le4 amount

/-- Section 11.6, R187: the sixteen bytes of a station's slot; an empty slot reads as kind NONE with every byte 0. -/
def noticeBytes (x : Station) (n : Option Notice) : List Byte :=
  match n with
  | none => zeros 16
  | some n => fill 1 16 (byte n.rank :: x.code :: noticeBody n)

end Sys2Proof.Machine
end

