-- ==== Sys2Proof/Machine/SignAlert.lean ====
section
/-! DEFINITION. The sign controller's commands and the lamp periods (chapter 8): SIGN DUTY, SHARE ACCEPT, SIGN SETUP,
CLEAR ALERT and the end of a lamp period. The alert switch's sample, which may wake the part, stands in Supply.lean. -/

namespace Sys2Proof.Machine

/-- The response of a sign command: the sign state after it. -/
def okSign (s : State) : Reply × State := ok [s.followSign.sign.shown.code] s.followSign

/-- R143: SIGN DUTY. -/
def signDutyBody (value : Byte) (s : State) : Reply × State :=
  match switchArg value with
  | none => refuse 1 .badArg s
  | some on => okSign (s.onSign (fun g => { g with duty := on }))

/-- SIGN DUTY (R143). -/
def execSignDuty (value : Byte) (s : State) : Result := .next (takeCommand 1 (signDutyBody value) s)

/-- R143: SHARE ACCEPT. -/
def shareAcceptBody (value : Byte) (s : State) : Reply × State :=
  match switchArg value with
  | none => refuse 1 .badArg s
  | some on => okSign (s.onSign (fun g => { g with shareAccept := on }))

/-- SHARE ACCEPT (R143). -/
def execShareAccept (value : Byte) (s : State) : Result := .next (takeCommand 1 (shareAcceptBody value) s)

/-- R144: SIGN SETUP. -/
def signSetupBody (filter : Byte) (s : State) : Reply × State :=
  if filter = 2 ∨ filter = 4 ∨ filter = 8 then
    ok [filter] (s.onSign (fun g => { g.countsClear with filter := filter.toNat }))
  else refuse 1 .badArg s

/-- SIGN SETUP (R144). -/
def execSignSetup (filter : Byte) (s : State) : Result := .next (takeCommand 1 (signSetupBody filter) s)

/-- R148: CLEAR ALERT. -/
def clearAlertBody (s : State) : Reply × State :=
  if s.sign.tracker = .up then okSign (s.onSign (fun g => { g with latch := false })) else refuse 1 .badState s

/-- CLEAR ALERT (R148). -/
def execClearAlert (s : State) : Result := .next (takeCommand 0 clearAlertBody s)

/-- The end of a 250 ms lamp period in ACTIVE: the samples, then the next period (R142, R145). -/
def execLampPeriodEnd (inWindow : Lamps Bool) (s : State) : Result :=
  .next (if s.supply.power = .active then (s.sampleLamps inWindow).onSign Sign.nextPeriod else s)

end Sys2Proof.Machine
end

