-- ==== Sys2Proof/Machine/Distance.lean ====
section
/-! DEFINITION. The distance unit (chapter 3): the working settings (R48), accepted edges and metre events (R49 to R52),
the close of a second (R53) and sensor supervision (R54 to R56). -/

namespace Sys2Proof.Machine

/-- R51: the most metres counted in one calendar second. -/
def windowMax : Nat := 90

/-- R48: the working settings an image gives. -/
def imageSettings (img : Image) : Settings :=
  { pulsesPerKm := img.pulsesPerKm, edge := if img.pulseEdge = 0 then .rising else .falling, filter := img.filterCount }

/-- R48: the working K, when present. -/
def Distance.constant (d : Distance) : Option Nat := d.settings.map (·.pulsesPerKm)

/-- R48: the working settings taken from an image; a new K sets the accumulator to 0. -/
def Distance.take (img : Image) (d : Distance) : Distance :=
  { d with
    settings := some (imageSettings img)
    accumulator := if d.constant = some img.pulsesPerKm then d.accumulator else 0
    lowRun := 0
    highRun := 0 }

/-- R48, R54: the working filter count, 20 while the settings are absent. -/
def Distance.filter (d : Distance) : Nat := (d.settings.map (·.filter)).getD 20

/-! ### Accepted edges -/

/-- R49: a transition is an accepted edge. -/
def State.accepts (s : State) (edge : PulseEdge) : Bool :=
  match s.dist.settings with
  | none => false
  | some w => w.edge == edge && s.supply.power != .holdover && !s.dist.faulted

/-- R29, R51: a counted metre in the window of every RUNNING fare. -/
def metreOnSlot (i : Fin 4) (s : State) : State :=
  s.modSlot i (fun t => if t.state = .running then { t with window := t.window + 1 } else t)

/-- R51: what a counted metre adds to the totals, hired metres only while a fare runs. -/
def hiredStep (running : Bool) : Nat := if running then 1 else 0

/-- R51: a metre event counted. -/
def State.countMetre (s : State) : State :=
  (((forSlots metreOnSlot s).onDist (fun d => { d with window := d.window + 1 })).count
    (fun t => { t with totalMetres := satAdd t.totalMetres 1,
                       hiredMetres := satAdd t.hiredMetres (hiredStep (s.runningCount != 0)) })).credit
    (fun sh => { sh with totalMetres := satAdd sh.totalMetres 1,
                         hiredMetres := satAdd sh.hiredMetres (hiredStep (s.runningCount != 0)) })

/-- R51, R52: a metre event counted below the cap, discarded at it. -/
def State.metre (s : State) : State :=
  if s.dist.window < windowMax then s.countMetre else s.onDist (fun d => { d with overspeed := true })

/-- R50: an accepted edge under the constant K. -/
def State.edge (k : Nat) (s : State) : State :=
  if k ≤ s.dist.accumulator + 1000 then
    (s.onDist (fun d => { d with accumulator := d.accumulator + 1000 - k })).metre
  else s.onDist (fun d => { d with accumulator := d.accumulator + 1000 })

/-- A DPLS transition (R49, R50). -/
def execAcceptedEdge (edge : PulseEdge) (s : State) : Result :=
  .next (if s.accepts edge then s.edge (s.dist.constant.getD 0) else s)

/-! ### The close of a second -/

/-- R53: the second just ended is closed. -/
def State.closeSecond (s : State) : State :=
  ((if s.dist.overspeed then
      (s.credit (fun sh => { sh with overspeedSeconds := satAdd sh.overspeedSeconds 1 })).raise .overspeed
    else s).onDist (fun d => { d with window := 0, overspeed := false }))

/-! ### Sensor supervision -/

/-- R55: a RUNNING or PAUSED fare marked by a sensor fault. -/
def markFault (i : Fin 4) (s : State) : State :=
  s.modSlot i (fun t => if t.state = .running ∨ t.state = .paused then { t with distanceFault := true } else t)

/-- R55: the sensor becomes FAULTED. -/
def State.sensorFault (s : State) : State :=
  (((forSlots markFault s).onDist (fun d => { d with faulted := true, lowRun := 0, highRun := 0 })).credit
    (fun sh => { sh with sensorFaults := satAdd sh.sensorFaults 1,
                         firstFault := some (sh.firstFault.getD s.cal.time) })).raise .sensor

/-- R56: the sensor becomes HEALTHY. -/
def State.sensorRecovery (s : State) : State :=
  (s.onDist (fun d => { d with faulted := false, lowRun := 0, highRun := 0 })).raise .sensor

/-- R54: a sample of DSENS against the sensor state. -/
def State.sampleSensor (high : Bool) (s : State) : State :=
  match s.dist.faulted, high with
  | false, false =>
    if s.dist.filter ≤ s.dist.lowRun + 1 then s.sensorFault
    else s.onDist (fun d => { d with lowRun := d.lowRun + 1 })
  | false, true => s.onDist (fun d => { d with lowRun := 0 })
  | true, true =>
    if s.dist.filter ≤ s.dist.highRun + 1 then s.sensorRecovery
    else s.onDist (fun d => { d with highRun := d.highRun + 1 })
  | true, false => s.onDist (fun d => { d with highRun := 0 })

/-- A 100 ms sample of DSENS, taken in ACTIVE or STANDBY (R54). -/
def execDsensSample (high : Bool) (s : State) : Result :=
  .next (if s.supply.power = .holdover then s else s.sampleSensor high)

/-- R58: at supply loss the window is emptied and the mark cleared. The low-run and high-run counts, of which R58 says no
more than that the return sets them to 0, keep their values until then: the model's choice (log entry 38). -/
def Distance.lose (d : Distance) : Distance := { d with window := 0, overspeed := false }

/-- R58: at supply return the settings are taken again from a VALID image, and the run counts are set to 0, whatever they
were kept at (log entry 38). -/
def Distance.return (valid : Bool) (img : Image) (d : Distance) : Distance :=
  if valid then d.take img else { d with lowRun := 0, highRun := 0 }

/-- R59: the distance unit at cold start. -/
def coldDistanceFrom (valid : Bool) (img : Image) : Distance :=
  { coldDistance with settings := if valid then some (imageSettings img) else none }

end Sys2Proof.Machine
end

