-- ==== Sys2Proof/Machine/TariffStore.lean ====
section
/-! DEFINITION. The tariff store's commands and events (chapter 5): LOAD STAGE, STAGE WRITE, READ ITEM, ENABLE COMMIT,
COMMIT, the service switch, and the completions of a store write; with the completion of a shift close that a mirror
write brings (R160). -/

namespace Sys2Proof.Machine

/-! ### Staging -/

/-- R84: staging filled from the active image, or with the blank image when the flag is INVALID. -/
def Store.loadStage (t : Store) : Store :=
  { t with staging := if t.valid then t.active else blankImage, stagingLoaded := true }

/-- R84: LOAD STAGE. -/
def loadStageBody (s : State) : Reply × State :=
  if s.store.busy then refuse 2 .busy s
  else ok (le2 (if s.store.valid then s.store.version else 0)) (s.onStore Store.loadStage)

/-- LOAD STAGE (R84). -/
def execLoadStage (s : State) : Result := .next (takeCommand 0 loadStageBody s)

/-- R85: STAGE WRITE. -/
def stageWriteBody (selector value : Nat) (s : State) : Reply × State :=
  if s.store.busy then refuse 6 .busy s
  else if !s.store.stagingLoaded then refuse 6 .badState s
  else
    match itemOf selector with
    | none => refuse 6 .badArg s
    | some i => ok (le2 selector ++ le4 value) (s.onStore (fun t => { t with staging := t.staging.withItem value i }))

/-- STAGE WRITE (R85). -/
def execStageWrite (selector : Half) (value : Word) (s : State) : Result :=
  .next (takeCommand 6 (stageWriteBody selector.toNat value.toNat) s)

/-- R86: the image READ ITEM reads for the active image: the read copy during a commit write, else the nonvolatile
image; none where the read is refused with NO_TARIFF. -/
def Store.readableImage (t : Store) : Option Image :=
  match t.state with
  | .commitWrite => t.readCopy.bind (fun c => if c.valid then some c.image else none)
  | _ => if t.valid then some t.active else none

/-- R86: READ ITEM. -/
def readItemBody (source : Byte) (selector : Nat) (s : State) : Reply × State :=
  match itemOf selector with
  | none => refuse 4 .badArg s
  | some i =>
    if source = 0 then
      match s.store.readableImage with
      | none => refuse 4 .noTariff s
      | some img => ok (le4 (img.item i)) s
    else if source = 1 then
      if s.store.stagingLoaded then ok (le4 (s.store.staging.item i)) s else refuse 4 .badState s
    else refuse 4 .badArg s

/-- READ ITEM (R86). -/
def execReadItem (source : Byte) (selector : Half) (s : State) : Result :=
  .next (takeCommand 3 (readItemBody source selector.toNat) s)

/-! ### ENABLE COMMIT and COMMIT -/

/-- R87: ENABLE COMMIT. -/
def enableCommitBody (s : State) : Reply × State :=
  if s.store.switchOpen then ok [] (s.onStore (fun t => { t with latch := true })) else refuse 0 .serviceClosed s

/-- ENABLE COMMIT (R87). -/
def execEnableCommit (s : State) : Result := .next (takeCommand 0 enableCommitBody s)

/-- R88: COMMIT refused with BAD_IMAGE carries the selector of the first failing item. -/
def refuseImage (i : Item) (s : State) : Reply × State :=
  ({ result := .badImage, response := le2 i.selector, atEnd := .nothing }, s)

/-- R88: COMMIT. -/
def commitBody (s : State) : Reply × State :=
  if s.store.busy then refuse 2 .busy s
  else if !s.store.switchOpen then refuse 2 .serviceClosed s
  else if !s.store.latch then refuse 2 .notEnabled s
  else if !s.store.stagingLoaded then refuse 2 .badState s
  else if s.anyOccupied then refuse 2 .openTrips s
  else
    match s.store.staging.firstBad with
    | some i => refuseImage i s
    | none => ok (le2 (nextVersion s.store.version)) (s.onStore (·.beginCommit s.tot))

/-- COMMIT (R88, R91). -/
def execCommit (s : State) : Result := .next (takeCommand 0 commitBody s)

/-! ### The service switch -/

/-- R83: the switch became OPEN at this sample. -/
def opened (before after : Store) : Bool := !before.switchOpen && after.switchOpen

/-- R82, R83: a sample of SVC, with the opening counted. -/
def State.sampleSwitch (high : Bool) (s : State) : State :=
  if opened s.store (s.store.sampleSwitch high) then
    ((s.onStore (·.sampleSwitch high)).count
      (fun t => { t with serviceOpenings := satAdd t.serviceOpenings 1 })).raise .service
  else s.onStore (·.sampleSwitch high)

/-- A 50 ms sample of SVC, taken in ACTIVE or STANDBY (R82). -/
def execSvcSample (high : Bool) (s : State) : Result :=
  .next (if s.supply.power = .holdover then s else s.sampleSwitch high)

/-! ### Completions of a commit write -/

/-- R93: the completion of a commit write in success, in its order. -/
def State.commitSucceeds (w : StoreWrite) (s : State) : State :=
  ((((s.onStore (·.commitDone w)).count committedTotals).raise .commitDone).onDist
    (fun d => d.take (w.image.getD s.store.active))).evaluate

/-- Completion of a commit write that verifies (R93); there is none when no commit write is in progress. -/
def execCommitWriteSuccess (s : State) : Result :=
  .next (match s.store.state, s.store.write with
    | .commitWrite, some w => s.commitSucceeds w
    | _, _ => s)

/-- R94: the calendar tariff and the deciding window become absent. -/
def Calendar.noTariff (c : Calendar) : Calendar := { c with tariff := none, deciding := none }

/-- R94: the completion of a commit write in verify failure, in its order. -/
def State.commitFails (s : State) : State :=
  ((s.onStore Store.commitFailed).raise .commitFailed).onCal Calendar.noTariff

/-- Completion of a commit write that fails verify (R94). -/
def execCommitWriteFailure (s : State) : Result :=
  .next (if s.store.state = .commitWrite then s.commitFails else s)

/-! ### Completions of a mirror write -/

/-- R160: the closing shift's record becomes the previous record at the completion of its mirror write. -/
def State.closeShift (s : State) : State :=
  match s.shift with
  | none => s
  | some sh =>
    if sh.state = .closing then
      (((s.putPrev (some { sh with closeStamp := some s.cal.time })).putShift none).raise .shiftClosed).followSign
    else s

/-- R95: the completion of a mirror write in success. -/
def State.mirrorSucceeds (w : StoreWrite) (s : State) : State :=
  (s.onStore (fun t => (t.completeMirror w).endWrite)).closeShift

/-- Completion of a mirror write that verifies (R95, R160). -/
def execMirrorWriteSuccess (s : State) : Result :=
  .next (match s.store.state, s.store.write with
    | .mirrorWrite, some w => s.mirrorSucceeds w
    | _, _ => s)

/-- Completion of a mirror write that fails verify: a new one begins at once with the live totalizers (R95). -/
def execMirrorWriteFailure (s : State) : Result :=
  .next (if s.store.state = .mirrorWrite then s.onStore (·.beginMirror s.tot) else s)

end Sys2Proof.Machine
end

