-- ==== Sys2Proof/Machine/Supply.lean ====
section
/-! DEFINITION. The supply unit (chapter 10): the ignition filter and timer, standby entry and wake, supply loss and
return, cold start; with the alert switch's sample (R147), which may wake the part. -/

namespace Sys2Proof.Machine

/-! ### Standby entry and wake -/

/-- R173: the supply unit at standby entry. -/
def Supply.sleep (u : Supply) : Supply := { u with power := .standby, offTimer := 0, standbyRequest := false }

/-- R173, R175, R176: a frame in progress given up, and watch mode off. What the end of the frame would have done for the
answer it held is not done: a READ EVENTS whose bytes were all clocked out clears nothing (log entry 37). -/
def DashLink.abandon (d : DashLink) : DashLink := { d with frame := .idle, counted := 0, watch := none }

/-- R173: standby entry, in one event. -/
def State.enterStandby (s : State) : State :=
  (((((s.onSupply Supply.sleep).onIc Intercom.allIdle).onLink PartitionLink.emptied).onDash DashLink.abandon).onSign
    Sign.countsClear).followSign

/-- R187: the selector is L at supply return, at cold start and at each wake. -/
def PartitionLink.selectLeft (p : PartitionLink) : PartitionLink := { p with selector := .left }

/-- R174: the wake from STANDBY, in one event. -/
def State.wake (s : State) : State :=
  (((((s.onSupply (fun u => { u with power := .active, offTimer := 0 })).onIc Intercom.trackersLong).onSign
    Sign.countsClear).onLink PartitionLink.selectLeft).repostBoth).followSign

/-- R174: a wake cause wakes a part in STANDBY and finds any other part as it is. -/
def State.wakeIfStandby (s : State) : State := if s.supply.power = .standby then s.wake else s

/-! ### The ignition -/

/-- R170: the number of consecutive samples that change the ignition state. -/
def ignitionSamples : Nat := 5

/-- R170: a sample of IGN against the ignition state; a change sets the timer to 0. -/
def Supply.sampleIgnition (high : Bool) (u : Supply) : Supply :=
  if high = u.ignitionOn then { u with ignitionRun := 0 }
  else if ignitionSamples ≤ u.ignitionRun + 1 then { u with ignitionOn := high, ignitionRun := 0, offTimer := 0 }
  else { u with ignitionRun := u.ignitionRun + 1 }

/-- R170: the ignition state became ON at this sample. -/
def ignitionCameOn (before after : Supply) : Bool := !before.ignitionOn && after.ignitionOn

/-- R170, R174: a sample of IGN, with the wake that the ignition brings. -/
def State.sampleIgnition (high : Bool) (s : State) : State :=
  if ignitionCameOn s.supply (s.supply.sampleIgnition high) then (s.onSupply (·.sampleIgnition high)).wakeIfStandby
  else s.onSupply (·.sampleIgnition high)

/-- A 100 ms sample of IGN, taken in ACTIVE or STANDBY (R170). -/
def execIgnSample (high : Bool) (s : State) : Result :=
  .next (if s.supply.power = .holdover then s else s.sampleIgnition high)

/-- R171: the seconds of ignition off that bring standby. -/
def offTimerMax : Nat := 300

/-- R171: the ignition-off timer after a rollover. -/
def nextOffTimer (anyActive : Bool) (timer : Nat) : Nat := if anyActive then 0 else min (timer + 1) offTimerMax

/-- R171: the timer stands at 300 with no fare active and the store IDLE. -/
def State.standbyIsDue (s : State) : Bool := !s.anyActive && offTimerMax ≤ s.supply.offTimer && !s.store.busy

/-- R171: the timer raised, and standby entered when it stands at 300. -/
def State.countIgnitionOff (s : State) : State :=
  let s' := s.onSupply (fun u => { u with offTimer := nextOffTimer s.anyActive u.offTimer })
  if s'.standbyIsDue then s'.enterStandby else s'

/-- R171: a rollover at the ignition-off timer, in ACTIVE with the ignition OFF. -/
def State.ignitionTick (s : State) : State :=
  if s.supply.power = .active ∧ s.supply.ignitionOn = false then s.countIgnitionOff else s

/-- R171: the rollover that would find the timer at 300, or bring it there. -/
def State.offTimerExpires (s : State) : Bool :=
  s.supply.power == .active && !s.supply.ignitionOn && !s.anyActive && offTimerMax ≤ s.supply.offTimer + 1
    && !s.store.busy

/-- The ignition-off timer brought to 300, or found there, enters STANDBY (R171): the supply unit's own taking of the
rollover that does so (log entry 9). -/
def execIgnitionOffTimerExpiry (s : State) : Result :=
  .next (if s.offTimerExpires then s.countIgnitionOff else s)

/-! ### The STANDBY command -/

/-- R172: STANDBY. -/
def standbyBody (s : State) : Reply × State :=
  if s.anyActive then refuse 0 .openTrips s
  else if s.store.busy then refuse 0 .busy s
  else ok [] (s.onSupply (fun u => { u with standbyRequest := true }))

/-- STANDBY (R172): the entry itself is made by the DCS rising that ends the frame. -/
def execStandby (s : State) : Result := .next (takeCommand 0 standbyBody s)

/-! ### The alert switch -/

/-- R147: the latch set with its event and the shift's alert count. -/
def State.latchAlert (s : State) : State :=
  ((s.onSign (fun g => { g with latch := true })).raise .alert).credit (fun sh => { sh with alerts := satAdd sh.alerts 1 })

/-- R142, R145: in ACTIVE the entry into ALERT ends the current lamp period early, with its samples. -/
def State.endPeriodEarly (inWindow : Lamps Bool) (s : State) : State :=
  if s.supply.power = .active then s.sampleLamps inWindow else s

/-- R147: the alert raised with the latch clear: latched, the part woken, the sign derived. -/
def State.raiseAlert (inWindow : Lamps Bool) (s : State) : State :=
  ((s.endPeriodEarly inWindow).latchAlert.wakeIfStandby).followSign

/-- R147: a sample of ALSW. -/
def State.sampleAlert (pressed : Bool) (inWindow : Lamps Bool) (s : State) : State :=
  let s' := s.onSign (fun g => { g with tracker := (trackAlert g.tracker pressed).1 })
  if (trackAlert s.sign.tracker pressed).2 && !s.sign.latch then s'.raiseAlert inWindow else s'

/-- A 50 ms sample of ALSW, taken in ACTIVE or STANDBY (R147). -/
def execAlswSample (pressed : Bool) (inWindow : Lamps Bool) (s : State) : Result :=
  .next (if s.supply.power = .holdover then s else s.sampleAlert pressed inWindow)

/-! ### Supply loss -/

/-- R25: a RUNNING fare becomes PAUSED with power-paused set. -/
def powerPause (i : Fin 4) (s : State) : State :=
  s.modSlot i (fun t => if t.state = .running then { t with state := .paused, powerPaused := true } else t)

/-- R25, R40: every RUNNING fare settled under the k of the loss, then every one of them PAUSED. -/
def State.pauseAll (s : State) : State := forSlots powerPause (forSlots (State.settleSlot s.runningCount) s)

/-- R175: the supply unit at supply loss: HOLDOVER, with a pending standby request dropped. -/
def Supply.lose (u : Supply) : Supply := { u with power := .holdover, standbyRequest := false }

/-- R175, R182: the dashboard link at supply loss. -/
def DashLink.lose (d : DashLink) : DashLink := { d.abandon with events := 0, mask := allEnabled }

/-- R150: the sign controller at supply loss. -/
def Sign.lose (g : Sign) : Sign := { g.countsClear with tracker := .up }

/-- R175: a supply loss, in one event. The volatile values that a rule sets only at the return keep what they hold until
then (log entry 38). -/
def State.loseSupply (s : State) : State :=
  ((((((((s.pauseAll).onStore Store.interrupt).onDash DashLink.lose).onSupply Supply.lose).onLink
    PartitionLink.emptied).onDist Distance.lose).onIc Intercom.silent).onSign Sign.lose).followSign

/-- A SUPL sample below the threshold, in ACTIVE or STANDBY (R175); in HOLDOVER it changes nothing. -/
def execSupplyLoss (s : State) : Result := .next (if s.supply.power = .holdover then s else s.loseSupply)

/-! ### Supply return -/

/-- R176, R182: the dashboard link at a return, with the pending set empty and the mask all enabled. -/
def DashLink.returned (d : DashLink) : DashLink := { d.abandon with events := 0, mask := allEnabled }

/-- R96: the write marker resolved at supply return. -/
def State.resolveMarker (s : State) : State :=
  match s.store.marker with
  | none => s
  | some .commit =>
    ((s.onStore (fun t => { t with marker := none })).raise .commitFailed).onCal Calendar.noTariff
  | some .mirror => s.onStore (·.beginMirror s.tot)

/-- R97: the volatile state of the store at a return. -/
def Store.returned (t : Store) : Store := { t.clearStaging with switchRun := 0 }

/-- R150: the sign controller at supply return. -/
def Sign.returned (g : Sign) : Sign := { g.filterReset with tracker := .up }

/-- R176: steps 1 to 4 of a supply return. -/
def State.returnStores (s : State) : State :=
  ((((s.onDash DashLink.returned).count
      (fun c => { c with supplyInterruptions := satAdd c.supplyInterruptions 1 })).resolveMarker).onDist
    (fun d => d.return s.store.valid s.store.active)).evaluate

/-- R176: step 5 of a supply return, the values of the other blocks. -/
def State.returnBlocks (s : State) : State :=
  ((((s.onStore Store.returned).onIc (fun c => c.allIdle.trackersLong)).onSign Sign.returned).onLink
    (fun p => p.emptied.selectLeft)).repostBoth

/-- R176: steps 6 and 7 of a supply return. -/
def State.returnPower (s : State) : State :=
  ((s.onSupply (fun u => { u with power := .active, ignitionRun := 0, lastCold := false })).followSign).raise .supply

/-- The main supply's return in HOLDOVER with the retention mark intact (R176). -/
def execSupplyReturn (s : State) : Result :=
  .next (if s.supply.power = .holdover ∧ s.supply.retention = true then s.returnStores.returnBlocks.returnPower else s)

/-! ### Cold start -/

/-- R97, R177: the store at a cold start before its mirror write: its nonvolatile state with the marker absent. -/
def Store.cold (t : Store) : Store :=
  { unwrittenStore with active := t.active, valid := t.valid, version := t.version, mirror := t.mirror }

/-- R168: the totalizers at a cold start: those of the mirror, with the cold starts raised by 1. -/
def coldTotals (t : Store) : Totalizers :=
  { t.mirror.value with coldStarts := satAdd t.mirror.value.coldStarts 1 }

/-- R177: the supply unit at a cold start. -/
def coldSupply : Supply :=
  { power := .active, ignitionOn := false, ignitionRun := 0, offTimer := 0, standbyRequest := false,
    retention := true, lastCold := true }

/-- R177: the part at a cold start; the nonvolatile store, the level of DRST and the waiting commands are kept. -/
def State.coldStart (s : State) : State :=
  (((({ slots := ⟨none, none, none, none⟩, cal := coldCalendar,
        dist := coldDistanceFrom s.store.valid s.store.active,
        store := s.store.cold.beginMirror (coldTotals s.store), ic := coldIntercom, sign := coldSign,
        shift := none, prev := none, tot := coldTotals s.store, supply := coldSupply,
        dash := coldDash s.dash.drstLow, link := coldLink, pending := s.pending } : State).raiseIf
      (s.store.marker == some .commit) .commitFailed)).raise .supply).followSign

/-- The main supply's return in HOLDOVER with the retention mark not intact (R177). -/
def execColdStart (s : State) : Result :=
  .next (if s.supply.power = .holdover ∧ s.supply.retention = false then s.coldStart else s)

/-- Loss of the battery supply: the retention mark is not intact (R177; log entry 8). -/
def execBatteryDomainLoss (s : State) : Result := .next (s.onSupply (fun u => { u with retention := false }))

end Sys2Proof.Machine
end

