-- ==== Sys2Proof/Machine/DashCommands.lean ====
section
/-! DEFINITION. The dashboard link's own commands and events (sections 11.2 to 11.4): READ STATUS, READ EVENTS, SET EVENT
MASK, WATCH, IDENTIFY, a command code absent from the table, the ends of a frame, the exit from watch mode, and the link
reset. -/

namespace Sys2Proof.Machine

/-! ### Reads -/

/-- READ STATUS (R183). -/
def execReadStatus (s : State) : Result := .next (takeCommand 0 (fun s => ok s.statusBlock s) s)

/-- R183: IDENTIFY's response. -/
def State.identity (s : State) : List Byte := identityBytes s.store.version Config.serialNumber.val

/-- IDENTIFY (R183; the serial number is log entry 1). -/
def execIdentify (s : State) : Result := .next (takeCommand 0 (fun s => ok s.identity s) s)

/-! ### Events -/

/-- R182: READ EVENTS: the enabled flags copied, to be cleared at the end of the frame. -/
def readEventsBody (s : State) : Reply × State :=
  ({ result := .ok, response := le2 (enabledEvents s.dash).toNat, atEnd := .clearEvents (enabledEvents s.dash) }, s)

/-- READ EVENTS (R182). -/
def execReadEvents (s : State) : Result := .next (takeCommand 0 readEventsBody s)

/-- SET EVENT MASK (R182). -/
def execSetEventMask (mask : Half) (s : State) : Result :=
  .next (takeCommand 2 (fun s => ok [] (s.onDash (fun d => { d with mask := mask }))) s)

/-! ### Watch mode -/

/-- R184: an accepted WATCH: the block as it stands, and watch mode on at the end of the frame when held. -/
def watchReply (b : WatchBlock) (hold : Bool) (s : State) : Reply × State :=
  ({ result := .ok, response := s.watchedBlock b, atEnd := if hold then .watchOn b else .nothing }, s)

/-- R184: WATCH. -/
def watchBody (block hold : Byte) (s : State) : Reply × State :=
  match blockArg block, switchArg hold with
  | some b, some hold => watchReply b hold s
  | _, _ => refuse 30 .badArg s

/-- WATCH (R184). -/
def execWatch (block hold : Byte) (s : State) : Result := .next (takeCommand 2 (watchBody block hold) s)

/-! ### Unknown codes -/

/-- Section 11.6: the codes of the command table. -/
def commandCodes : List Byte :=
  [0x10, 0x11, 0x12, 0x13, 0x14, 0x15, 0x16, 0x17, 0x18, 0x20, 0x21, 0x30, 0x31, 0x32, 0x40, 0x41, 0x42, 0x43, 0x44,
   0x50, 0x51, 0x52, 0x53, 0x54, 0x60, 0x61, 0x62, 0x63, 0x70, 0x71, 0x72, 0x73, 0x74, 0x75, 0x76, 0x80, 0x81, 0x82,
   0x83, 0x84, 0x90]

/-- R179: a code absent from the command table: BAD_COMMAND, with no response. -/
def badCommandBody (s : State) : Reply × State := refuse 0 .badCommand s

/-- R184: the next byte is the first of a watch frame. -/
def DashLink.awaitsExit (d : DashLink) : Bool :=
  match d.frame with
  | .watching _ => d.counted == 0
  | _ => false

/-- R184: watch mode ended by the first byte of a watch frame. -/
def DashLink.exitWatch (d : DashLink) : DashLink :=
  match d.frame with
  | .watching snapshot => { d with watch := none, frame := .watchEnded snapshot, counted := 1 }
  | _ => d

/-- R184: the byte that ends watch mode. -/
def watchExit : Byte := 0xA5

/-- R179, R184: a byte that is no code of the command table: 0xA5 as the first byte of a watch frame ends watch mode; any
such byte is an unknown code as the first byte of a command frame, and is ignored and counted elsewhere in a frame (log
entry 26). -/
def State.takeUnlisted (code : Byte) (s : State) : State :=
  if code = watchExit ∧ s.dash.awaitsExit = true then s.onDash DashLink.exitWatch else takeCommand 0 badCommandBody s

/-- A command code absent from the command table (R179), the byte 0xA5 of R184 among them; a code of the table is no such
command and changes nothing (log entry 23). -/
def execBadCommand (code : Byte) (s : State) : Result :=
  .next (if code ∈ commandCodes then s else s.takeUnlisted code)

/-! ### The ends of a frame -/

/-- R184: the frame that a DCS falling begins in ACTIVE: a watch frame with its snapshot, or a command frame. -/
def State.openFrame (s : State) : FrameState :=
  match s.dash.watch with
  | some b => .watching (s.watchedBlock b)
  | none => .receiving

/-- A frame begun in a frame state, with no byte of it counted (R178). -/
def State.putFrame (f : FrameState) (s : State) : State := s.onDash (fun d => { d with frame := f, counted := 0 })

/-- R179, R185: DCS falling is not looked at: DRST is low, the part is in HOLDOVER, or a frame is in progress. -/
def State.ignoresFalling (s : State) : Bool :=
  s.dash.drstLow || s.supply.power == .holdover || s.dash.frame != .idle

/-- DCS falling (R174, R179, R184): a wake from STANDBY with its frame discarded, or the start of a frame. -/
def execDcsFalling (s : State) : Result :=
  .next (if s.ignoresFalling then s
    else if s.supply.power = .standby then s.wake.putFrame .discarded
    else s.putFrame s.openFrame)

/-- R182: the bytes clocked in a READ EVENTS frame once the result and both response bytes are out. -/
def readEventsBytes : Nat := 5

/-- R182, R184: what the end of a frame does for the answer it held, after `clocked` bytes. -/
def DashLink.finish (clocked : Nat) (e : FrameEnd) (d : DashLink) : DashLink :=
  match e with
  | .nothing => d
  | .clearEvents copy => if readEventsBytes ≤ clocked then d.clearCopy copy else d
  | .watchOn b => { d with watch := some b }

/-- R179: the frame ended: idle, with what its answer brings. -/
def DashLink.endFrame (clocked : Nat) (d : DashLink) : DashLink :=
  match d.frame with
  | .answered _ _ _ e => { d.finish (max d.counted clocked) e with frame := .idle, counted := 0 }
  | _ => { d with frame := .idle, counted := 0 }

/-- R172: a pending standby request honoured at the end of its frame, or dropped when a fare has become active. -/
def State.honourStandby (s : State) : State :=
  if s.supply.standbyRequest then
    if s.supply.power = .active ∧ s.anyActive = false then s.enterStandby
    else s.onSupply (fun u => { u with standbyRequest := false })
  else s

/-- DCS rising after `clocked` bytes (R172, R179, R182, R184). -/
def execDcsRising (clocked : Nat) (s : State) : Result := .next ((s.onDash (·.endFrame clocked)).honourStandby)

/-- The byte 0xA5 (R184): it ends watch mode as the first byte of a watch frame, and is any other unlisted byte elsewhere
(log entry 26). -/
def execWatchModeExit (s : State) : Result := .next (s.takeUnlisted watchExit)

/-! ### Link reset -/

/-- R185: the dashboard link at a link reset. -/
def DashLink.reset (d : DashLink) : DashLink := { d.abandon with events := 0, mask := allEnabled }

/-- R185: the effects of a link reset, in ACTIVE or STANDBY. -/
def State.linkReset (s : State) : State :=
  ((((s.onDash DashLink.reset).onStore Store.clearStaging).onIc Intercom.linkReset).onSign Sign.filterReset).onSupply
    (fun u => { u with standbyRequest := false })

/-- The state with the level of DRST replaced (log entry 7). -/
def State.putDrst (low : Bool) (s : State) : State := s.onDash (fun d => { d with drstLow := low })

/-- DRST falling (R185); in HOLDOVER the line is not sampled, and only its level is followed (log entry 7). -/
def execLinkReset (s : State) : Result :=
  .next (if s.supply.power = .holdover then s.putDrst true else s.linkReset.putDrst true)

/-- DRST rising (R185). -/
def execDrstRising (s : State) : Result := .next (s.putDrst false)

end Sys2Proof.Machine
end

