-- ==== Sys2Proof/Machine/PartitionLink.lean ====
section
/-! DEFINITION. The partition link's own events (section 11.5): the selector write, a discarded write, and the read of a
notice. The messages it hands to the settlement unit stand in Settlement.lean. -/

namespace Sys2Proof.Machine

/-- Selector write (R186). -/
def execSelectorWrite (x : Station) (s : State) : Result :=
  .next (if s.supply.power = .active then s.onLink (fun p => { p with selector := x }) else s)

/-! ### Discarded writes -/

/-- Section 11.6: the length of the write of a kind; none for an unknown kind. -/
def messageLength (kind : Byte) : Option Nat :=
  if kind = kindHoldPlaced then some 12
  else if kind = kindHoldReleased then some 6
  else if kind = kindPayBegin then some 4
  else if kind = kindPayResult then some 17
  else if kind = kindPayVoid then some 8
  else if kind = kindFareQuery then some 2
  else if kind = kindSelector then some 2
  else none

/-- R186: a write of a known kind with its correct length. -/
def lengthFits (bytes : List Byte) : Bool :=
  match bytes with
  | [] => false
  | kind :: _ => messageLength kind == some bytes.length

/-- R186: the station that byte 1 of a write names. -/
def namedStation (bytes : List Byte) : Option Station :=
  match bytes with
  | _ :: b :: _ => stationArg b
  | _ => none

/-- R186: a write of known kind and correct length that names a station is a message, and is taken. -/
def isMessage (bytes : List Byte) : Bool := lengthFits bytes && (namedStation bytes).isSome

/-- R186: the ACK of a discarded write, to the station it names when its kind or its length is wrong. -/
def State.ackDiscard (kind : Byte) (bytes : List Byte) (s : State) : State :=
  match lengthFits bytes, namedStation bytes with
  | false, some x => s.deny x kind .badMessage none
  | _, _ => s

/-- R186: a write of at least one byte that is no message: TERMINAL_ERROR, and the ACK where one goes. -/
def State.discardWrite (kind : Byte) (bytes : List Byte) (s : State) : State :=
  (s.raise .terminalError).ackDiscard kind bytes

/-- R186: the write of a transaction that is not a message; an address with no data bytes is ignored. -/
def State.judgeWrite (bytes : List Byte) (s : State) : State :=
  match bytes with
  | [] => s
  | kind :: _ => if isMessage bytes then s else s.discardWrite kind bytes

/-- A partition write that is discarded (R186), in ACTIVE. -/
def execPartitionWriteDiscarded (bytes : List Byte) (s : State) : Result :=
  .next (if s.supply.power = .active then s.judgeWrite bytes else s)

/-! ### Reading a notice -/

/-- R187: a read begins: the selected slot's notice is copied. -/
def PartitionLink.beginRead (p : PartitionLink) : PartitionLink :=
  { p with read := some { station := p.selector, copy := p.notices.get p.selector, replaced := false } }

/-- R187: the bytes clocked by a whole read. -/
def noticeLength : Nat := 16

/-- R187: a read that has ended empties its slot: all sixteen bytes were clocked, a notice was copied, and none has
been posted into the slot since. -/
def NoticeRead.empties (clocked : Nat) (r : NoticeRead) : Bool :=
  noticeLength ≤ clocked && r.copy.isSome && !r.replaced

/-- R187: byte `n` that a read returns: the sixteen bytes of the notice copied, and 0xFF after them. -/
def NoticeRead.outByte (r : NoticeRead) (n : Nat) : Byte := (noticeBytes r.station r.copy).getD n 0xFF

/-- R187: the bytes that a read of `clocked` bytes returns. -/
def NoticeRead.bytes (clocked : Nat) (r : NoticeRead) : List Byte := (List.range clocked).map r.outByte

/-- R187: no read in progress any more; the bytes it returned are kept (log entry 34). -/
def PartitionLink.finishRead (bytes : List Byte) (p : PartitionLink) : PartitionLink :=
  { p with read := none, sent := bytes }

/-- R187, R189: a read ends; a slot it empties is looked at for a RELEASE_HOLD to post again. -/
def State.endRead (clocked : Nat) (s : State) : State :=
  match s.link.read with
  | none => s
  | some r =>
    if r.empties clocked then
      ((s.onLink (·.clear r.station)).onLink (·.finishRead (r.bytes clocked))).repost r.station
    else s.onLink (·.finishRead (r.bytes clocked))

/-- R187: a read transaction, or one of its two ends. -/
def State.readNotice (part : ReadPart) (s : State) : State :=
  match part with
  | .whole clocked => (s.onLink PartitionLink.beginRead).endRead clocked
  | .start => s.onLink PartitionLink.beginRead
  | .stop clocked => s.endRead clocked

/-- NOTICE_READ (R187, R189), in ACTIVE (log entry 15). -/
def execNoticeRead (part : ReadPart) (s : State) : Result :=
  .next (if s.supply.power = .active then s.readNotice part else s)

end Sys2Proof.Machine
end

