-- ==== Sys2Proof/Decode.lean ====
section
/-! DEFINITION. The bytes of the two links as commands: the frames of the dashboard unit and the writes of the partition
terminal (section 11.6), with the bytes of each command; and the words of spec/opcode_table.json, which gives no row any
bits. -/

namespace Sys2Proof

/-- The command a word of the opcode table spells: the table gives no row any bits, so no word spells one. -/
def decodeTableWord (_nbits _w : Nat) : Option Instr := none

/-! ### Numbers of several bytes (R178) -/

/-- A two-byte number from its bytes, least significant first. -/
def halfOf (b0 b1 : Byte) : Half := b1 ++ b0

/-- A four-byte number from its bytes, least significant first. -/
def wordOf (b0 b1 b2 b3 : Byte) : Word := b3 ++ (b2 ++ (b1 ++ b0))

/-- The bytes of a two-byte number, least significant first. -/
def halfBytes (v : Half) : List Byte := [v.extractLsb' 0 8, v.extractLsb' 8 8]

/-- The bytes of a four-byte number, least significant first. -/
def wordBytes (v : Word) : List Byte :=
  [v.extractLsb' 0 8, v.extractLsb' 8 8, v.extractLsb' 16 8, v.extractLsb' 24 8]

/-! ### Argument bytes (R179: bytes after the last argument are ignored) -/

/-- A command of one argument byte. -/
def take1 (f : Byte → Instr) (args : List Byte) : Option Instr :=
  match args with
  | a :: _ => some (f a)
  | _ => none

/-- A command of two argument bytes. -/
def take2 (f : Byte → Byte → Instr) (args : List Byte) : Option Instr :=
  match args with
  | a :: b :: _ => some (f a b)
  | _ => none

/-- A command of three argument bytes. -/
def take3 (f : Byte → Byte → Byte → Instr) (args : List Byte) : Option Instr :=
  match args with
  | a :: b :: c :: _ => some (f a b c)
  | _ => none

/-- A command of four argument bytes. -/
def take4 (f : Byte → Byte → Byte → Byte → Instr) (args : List Byte) : Option Instr :=
  match args with
  | a :: b :: c :: d :: _ => some (f a b c d)
  | _ => none

/-- RECORD CASH: slot and tip. -/
def takeCash (args : List Byte) : Option Instr :=
  match args with
  | a :: b :: c :: d :: e :: _ => some (.recordCash a (wordOf b c d e))
  | _ => none

/-- STAGE WRITE: selector and value. -/
def takeStage (args : List Byte) : Option Instr :=
  match args with
  | a :: b :: c :: d :: e :: f :: _ => some (.stageWrite (halfOf a b) (wordOf c d e f))
  | _ => none

/-- SET CLOCK: a calendar stamp. -/
def takeClock (args : List Byte) : Option Instr :=
  match args with
  | a :: b :: c :: d :: e :: f :: g :: _ => some (.setClock (halfOf a b) c d e f g)
  | _ => none

/-! ### Dashboard frames -/

/-- Section 11.6: the command a code and the bytes after it make, none while an argument is still to come; a code
absent from the table is taken at its own byte (R179). -/
def decodeCommand (code : Byte) (args : List Byte) : Option Instr :=
  match code.toNat with
  | 0x10 => take4 .startFare args
  | 0x11 => take1 .pauseFare args
  | 0x12 => take1 .resumeFare args
  | 0x13 => take1 .stopFare args
  | 0x14 => take1 .reopenFare args
  | 0x15 => take3 .addExtra args
  | 0x16 => take2 .cancelExtra args
  | 0x17 => take1 .readTrip args
  | 0x18 => take3 (fun a b c => .releaseTrip a (halfOf b c)) args
  | 0x20 => takeCash args
  | 0x21 => take1 .declareUnpaid args
  | 0x30 => takeClock args
  | 0x31 => take1 .adjustClock args
  | 0x32 => some .readClock
  | 0x40 => some .loadStage
  | 0x41 => takeStage args
  | 0x42 => take3 (fun a b c => .readItem a (halfOf b c)) args
  | 0x43 => some .enableCommit
  | 0x44 => some .commit
  | 0x50 => take1 .answer args
  | 0x51 => take1 .openStation args
  | 0x52 => take1 .closeStation args
  | 0x53 => take1 .talkPress args
  | 0x54 => some .talkRelease
  | 0x60 => take1 .signDuty args
  | 0x61 => take1 .shareAccept args
  | 0x62 => take1 .signSetup args
  | 0x63 => some .clearAlert
  | 0x70 => take4 (fun a b c d => .shiftOpen (wordOf a b c d)) args
  | 0x71 => some .shiftBreak
  | 0x72 => some .shiftResume
  | 0x73 => some .shiftClose
  | 0x74 => take1 .readShift args
  | 0x75 => take2 (fun a b => .releaseShift (halfOf a b)) args
  | 0x76 => some .readTotalizers
  | 0x80 => some .readStatus
  | 0x81 => some .readEvents
  | 0x82 => take2 (fun a b => .setEventMask (halfOf a b)) args
  | 0x83 => take2 .watch args
  | 0x84 => some .identify
  | 0x90 => some .standby
  | _ => some (.badCommand code)

/-- R179: the command that the bytes received in a command frame bring about. -/
def decodeFrame (bytes : List Byte) : Option Instr :=
  match bytes with
  | [] => none
  | code :: args => decodeCommand code args

/-- Section 11.6: the bytes of a dashboard command, code first; none for a row that is no such command. -/
def encodeFrame (i : Instr) : Option (List Byte) :=
  match i with
  | .startFare set share selection tariff => some [0x10, set, share, selection, tariff]
  | .pauseFare slot => some [0x11, slot]
  | .resumeFare slot => some [0x12, slot]
  | .stopFare slot => some [0x13, slot]
  | .reopenFare slot => some [0x14, slot]
  | .addExtra slot kind count => some [0x15, slot, kind, count]
  | .cancelExtra slot kind => some [0x16, slot, kind]
  | .readTrip slot => some [0x17, slot]
  | .releaseTrip slot trip => some (0x18 :: slot :: halfBytes trip)
  | .recordCash slot tip => some (0x20 :: slot :: wordBytes tip)
  | .declareUnpaid slot => some [0x21, slot]
  | .setClock year month day hour minute second =>
    some (0x30 :: halfBytes year ++ [month, day, hour, minute, second])
  | .adjustClock seconds => some [0x31, seconds]
  | .readClock => some [0x32]
  | .loadStage => some [0x40]
  | .stageWrite selector value => some (0x41 :: halfBytes selector ++ wordBytes value)
  | .readItem source selector => some (0x42 :: source :: halfBytes selector)
  | .enableCommit => some [0x43]
  | .commit => some [0x44]
  | .standby => some [0x90]
  | .answer station => some [0x50, station]
  | .openStation station => some [0x51, station]
  | .closeStation station => some [0x52, station]
  | .talkPress set => some [0x53, set]
  | .talkRelease => some [0x54]
  | .signDuty value => some [0x60, value]
  | .shareAccept value => some [0x61, value]
  | .signSetup filter => some [0x62, filter]
  | .clearAlert => some [0x63]
  | .shiftOpen driver => some (0x70 :: wordBytes driver)
  | .shiftBreak => some [0x71]
  | .shiftResume => some [0x72]
  | .shiftClose => some [0x73]
  | .readShift which => some [0x74, which]
  | .releaseShift number => some (0x75 :: halfBytes number)
  | .readTotalizers => some [0x76]
  | .readStatus => some [0x80]
  | .readEvents => some [0x81]
  | .setEventMask mask => some (0x82 :: halfBytes mask)
  | .watch block hold => some [0x83, block, hold]
  | .identify => some [0x84]
  | .badCommand code => some [code]
  | .dcsFalling | .dcsRising .. | .watchModeExit | .linkReset => none
  | .holdPlaced .. | .holdReleased .. | .payBegin .. | .payResult .. | .payVoid .. | .fareQuery .. => none
  | .selectorWrite .. | .partitionWriteDiscarded .. | .noticeRead .. => none
  | .secondRollover | .paymentTimerExpiry .. | .callTimerExpiry .. | .connectionExpiry | .talkExpiry => none
  | .ignitionOffTimerExpiry | .callChimeEnd | .fareChimeEnd .. => none
  | .acceptedEdge .. | .dsensSample .. | .svcSample .. | .buttonSample .. | .lampPeriodEnd .. | .alswSample .. => none
  | .ignSample .. | .supplyLoss | .supplyReturn | .coldStart => none
  | .commitWriteSuccess | .commitWriteFailure | .mirrorWriteSuccess | .mirrorWriteFailure => none
  | .drstRising | .batteryDomainLoss => none

/-! ### Partition writes -/

open Sys2Proof.Machine in
/-- Section 11.6: the message of a kind for a station, from the bytes after the two; none for another kind or length. -/
def messageOf (kind : Byte) (x : Station) (body : List Byte) : Option Instr :=
  if kind = kindHoldPlaced then
    match body with
    | [a, b, c, d, e, f, g, h, i, j] => some (.holdPlaced x (halfOf a b) (wordOf c d e f) (wordOf g h i j))
    | _ => none
  else if kind = kindHoldReleased then
    match body with
    | [a, b, c, d] => some (.holdReleased x (wordOf a b c d))
    | _ => none
  else if kind = kindPayBegin then
    match body with
    | [a, b] => some (.payBegin x (halfOf a b))
    | _ => none
  else if kind = kindPayResult then
    match body with
    | [a, b, o, c, d, e, f, g, h, i, j, k, l, m, n] =>
      some (.payResult x (halfOf a b) o (wordOf c d e f) (wordOf g h i j) (wordOf k l m n))
    | _ => none
  else if kind = kindPayVoid then
    match body with
    | [a, b, c, d, e, f] => some (.payVoid x (halfOf a b) (wordOf c d e f))
    | _ => none
  else if kind = kindFareQuery then
    match body with
    | [] => some (.fareQuery x)
    | _ => none
  else if kind = kindSelector then
    match body with
    | [] => some (.selectorWrite x)
    | _ => none
  else none

open Sys2Proof.Machine in
/-- R186: the message a write of kind, station and body makes, when it makes one. -/
def asMessage (bytes : List Byte) : Option Instr :=
  match bytes with
  | kind :: st :: body => (stationArg st).bind (fun x => messageOf kind x body)
  | _ => none

/-- R186: what a partition write brings about; an address with no data bytes brings about nothing. -/
def decodeWrite (bytes : List Byte) : Option Instr :=
  match bytes with
  | [] => none
  | _ :: _ => some ((asMessage bytes).getD (.partitionWriteDiscarded bytes))

open Sys2Proof.Machine in
/-- Section 11.6: the bytes of a partition write; none for a row that is no such write. -/
def encodeWrite (i : Instr) : Option (List Byte) :=
  match i with
  | .holdPlaced x trip reference amount =>
    some (kindHoldPlaced :: x.code :: halfBytes trip ++ wordBytes reference ++ wordBytes amount)
  | .holdReleased x reference => some (kindHoldReleased :: x.code :: wordBytes reference)
  | .payBegin x trip => some (kindPayBegin :: x.code :: halfBytes trip)
  | .payResult x trip outcome captured tip reference =>
    some (kindPayResult :: x.code :: halfBytes trip ++ outcome :: wordBytes captured ++ wordBytes tip
      ++ wordBytes reference)
  | .payVoid x trip reference => some (kindPayVoid :: x.code :: halfBytes trip ++ wordBytes reference)
  | .fareQuery x => some [kindFareQuery, x.code]
  | .selectorWrite x => some [kindSelector, x.code]
  | .partitionWriteDiscarded bytes => some bytes
  | _ => none

end Sys2Proof
end

