-- ==== Sys2Proof/Machine/SettlementOps.lean ====
section
/-! DEFINITION. The settlement unit's operations (chapter 6): the shift's money (R113), the settlement of a fare, and
its return to STOPPED. -/

namespace Sys2Proof.Machine

/-! ### Money credited to the shift (R113) -/

/-- The method total a settlement credits. -/
def Shift.methodTotal (m : Method) (sh : Shift) : Nat :=
  match m with
  | .card => sh.cardFares
  | .cash => sh.cashFares
  | .unpaid => sh.unpaidFares
  | .unsettled => 0

/-- The shift record with a method total replaced. -/
def Shift.withMethodTotal (m : Method) (v : Nat) (sh : Shift) : Shift :=
  match m with
  | .card => { sh with cardFares := v }
  | .cash => { sh with cashFares := v }
  | .unpaid => { sh with unpaidFares := v }
  | .unsettled => sh

/-- R113: none of the four totals would be carried past its limit. -/
def Shift.hasRoom (m : Method) (t : Trip) (sh : Shift) : Bool :=
  sh.flagFallTotal + t.flagFall ≤ countMax && sh.stepTotal + t.stepTotal ≤ countMax
    && sh.extrasTotal + t.extrasTotal ≤ countMax && sh.methodTotal m + t.totalDue ≤ countMax

/-- R113: the four totals raised together. -/
def Shift.raiseMoney (m : Method) (t : Trip) (sh : Shift) : Shift :=
  { (sh.withMethodTotal m (sh.methodTotal m + t.totalDue)) with
    flagFallTotal := sh.flagFallTotal + t.flagFall
    stepTotal := sh.stepTotal + t.stepTotal
    extrasTotal := sh.extrasTotal + t.extrasTotal }

/-- R113: a settlement's credit: the four totals together or not at all, and the tip. -/
def Shift.creditMoney (m : Method) (t : Trip) (tip : Nat) (sh : Shift) : Shift :=
  let sh' := if sh.hasRoom m t then sh.raiseMoney m t else sh
  { sh' with tips := satAdd sh'.tips tip }

/-- R113: each of the four totals holds at least its amount. -/
def Shift.covers (t : Trip) (sh : Shift) : Bool :=
  t.flagFall ≤ sh.flagFallTotal && t.stepTotal ≤ sh.stepTotal && t.extrasTotal ≤ sh.extrasTotal
    && t.totalDue ≤ sh.cardFares

/-- R113: the four totals lowered together. -/
def Shift.lowerMoney (t : Trip) (sh : Shift) : Shift :=
  { sh with
    flagFallTotal := sh.flagFallTotal - t.flagFall
    stepTotal := sh.stepTotal - t.stepTotal
    extrasTotal := sh.extrasTotal - t.extrasTotal
    cardFares := sh.cardFares - t.totalDue }

/-- R113, R114: a void's debit: the four totals together or not at all, and the tip down to no less than 0, also from a
saturated tips total (log entry 36). -/
def Shift.debitMoney (t : Trip) (tip : Nat) (sh : Shift) : Shift :=
  let sh' := if sh.covers t then sh.lowerMoney t else sh
  { sh' with tips := sh'.tips - tip }

/-- The settlement count of a method raised by 1 (R110, R116, R117). -/
def Shift.countSettlement (m : Method) (sh : Shift) : Shift :=
  match m with
  | .card => { sh with cardSettlements := satAdd sh.cardSettlements 1 }
  | .cash => { sh with cashSettlements := satAdd sh.cashSettlements 1 }
  | .unpaid => { sh with unpaidSettlements := satAdd sh.unpaidSettlements 1 }
  | .unsettled => sh

/-! ### The record at a settlement -/

/-- R110: a hold in HELD becomes CONSUMED; a hold in another state is left as it is. -/
def Hold.consume (h : Hold) : Hold := if h.state = .held then { h with state := .consumed } else h

/-- R118: a hold in HELD becomes RELEASE_PENDING; a hold in another state is left as it is. -/
def Hold.sendForRelease (h : Hold) : Hold := if h.state = .held then { h with state := .releasePending } else h

/-- R110: the record of a fare settled by card. -/
def Trip.settleCard (reference captured tip : Nat) (t : Trip) : Trip :=
  { t with
    state := .settled
    payment := some { t.paymentOrNew with
      method := .card, attempt := .approved, cardRef := some reference, captured := captured, tip := tip, timer := 0,
      hold := t.hold.map Hold.consume } }

/-- R116, R117: the record of a fare settled in cash or unpaid. -/
def Trip.settleByDriver (m : Method) (captured tip : Nat) (t : Trip) : Trip :=
  { t with
    state := .settled
    payment := some { t.paymentOrNew with
      method := m, captured := captured, tip := tip, hold := t.hold.map Hold.sendForRelease } }

/-- R107: the record of a fare whose card payment begins. -/
def Trip.beginPayment (timeout : Nat) (t : Trip) : Trip :=
  { t with
    state := .settling
    grace := t.grace.map (fun g => { g with attempted := true })
    payment := some { t.paymentOrNew with attempt := .inProgress, timer := timeout } }

/-- R108, R111, R112: the record of a fare returned from SETTLING to STOPPED. -/
def Trip.endPayment (a : Attempt) (declines : Nat) (t : Trip) : Trip :=
  { t with
    state := .stopped
    payment := t.payment.map (fun p => { p with attempt := a, timer := 0, declines := p.declines + declines }) }

/-- R114: the record of a voided card fare. -/
def Trip.voidPayment (t : Trip) : Trip :=
  { t with
    state := .stopped
    payment := t.payment.map (fun p =>
      { p with method := .unsettled, attempt := .idle, cardRef := none, captured := 0, tip := 0 }) }

/-- The hold of a record is HELD. -/
def Trip.hasHeldHold (t : Trip) : Bool := t.hold.any (·.state == .held)

/-- R118: the RELEASE_HOLD notice of a fare just settled by the driver, when its hold was HELD. -/
def State.sendHold (before after : Trip) (s : State) : State :=
  match after.hold with
  | some h => if before.hasHeldHold then s.post h.station (releaseNotice after) else s
  | none => s

/-! ### Settlements and returns as the other blocks see them -/

/-- R116, R117: a fare settled by the driver, in the rules' order up to the unbinding of its stations. -/
def State.settleByDriver (i : Fin 4) (t : Trip) (m : Method) (captured tip : Nat) (s : State) : State :=
  (((s.putSlot i (some (t.settleByDriver m captured tip))).credit
      (fun sh => (sh.creditMoney m t tip).countSettlement m)).sendHold t (t.settleByDriver m captured tip)).onIc
    (·.unbind t.stations)

/-- R110: a fare settled by card, in the rule's order. -/
def State.settleByCard (x : Station) (i : Fin 4) (t : Trip) (reference captured tip : Nat) (s : State) : State :=
  (((((s.putSlot i (some (t.settleCard reference captured tip))).credit
      (fun sh => (sh.creditMoney .card t tip).countSettlement .card)).onIc
    (fun c => (c.unbind t.stations).chimeAll .paid t.stations)).raise .fare).accept x kindPayResult t)

/-- R108: the payment timer expiry of a fare. -/
def State.paymentExpires (i : Fin 4) (t : Trip) (s : State) : State :=
  ((s.putSlot i (some (t.endPayment .timedOut 0))).raise .fare).postDue t

/-- R108: a rollover at the payment timer of a SETTLING fare. -/
def State.paymentTick (i : Fin 4) (s : State) : State :=
  match s.slot i with
  | none => s
  | some t =>
    if t.state = .settling then
      if t.paymentOrNew.timer ≤ 1 then s.paymentExpires i t
      else s.putSlot i (some { t with payment := t.payment.map (fun p => { p with timer := p.timer - 1 }) })
    else s

/-- R12: the most a grace count reaches. -/
def graceMax : Nat := 20

/-- R12: a grace count raised by a rollover. -/
def Grace.tick (g : Grace) : Grace := { g with count := min (g.count + 1) graceMax }

/-- R12: a rollover at the reopen grace of a STOPPED or SETTLING fare. -/
def graceTick (i : Fin 4) (s : State) : State :=
  s.modSlot i (fun t =>
    if t.state = .stopped ∨ t.state = .settling then { t with grace := t.grace.map Grace.tick } else t)

end Sys2Proof.Machine
end

