-- ==== Sys2Proof/Machine/Settlement.lean ====
section
/-! DEFINITION. The settlement unit's messages and commands (chapter 6): HOLD PLACED, HOLD RELEASED, PAY BEGIN, PAY
RESULT, PAY VOID, FARE QUERY, RECORD CASH, DECLARE UNPAID and the payment timer expiry. -/

namespace Sys2Proof.Machine

/-! ### Holds -/

/-- R104: the hold a HOLD PLACED creates. -/
def newHold (x : Station) (reference amount : Nat) : Hold :=
  { reference := reference, amount := amount, station := x, state := .held, warned := false }

/-- R104: the message repeats the hold the fare already has. -/
def Hold.isSame (h : Hold) (x : Station) (reference amount : Nat) : Bool :=
  h.reference == reference && h.amount == amount && h.station == x

/-- R104: the record with a hold placed, its sub-record created when absent. -/
def Trip.placeHold (h : Hold) (t : Trip) : Trip := { t with payment := some { t.paymentOrNew with hold := some h } }

/-- R104: an accepted HOLD PLACED. -/
def State.placeHold (x : Station) (i : Fin 4) (t : Trip) (reference amount : Nat) (s : State) : State :=
  (((s.putSlot i (some (t.placeHold (newHold x reference amount)))).raise .hold).accept x kindHoldPlaced t).holdWarning i

/-- R104: HOLD PLACED on the fare found. -/
def holdPlacedOn (x : Station) (reference amount : Nat) (i : Fin 4) (t : Trip) (s : State) : State :=
  match t.hold with
  | some h =>
    if h.isSame x reference amount then s.accept x kindHoldPlaced t else s.deny x kindHoldPlaced .mismatch (some t)
  | none =>
    if ¬(t.state = .running ∨ t.state = .paused) then s.deny x kindHoldPlaced .wrongState (some t)
    else if amount < 100 ∨ 999999 < amount then s.deny x kindHoldPlaced .badAmount (some t)
    else s.placeHold x i t reference amount

/-- R103, R104: HOLD PLACED. -/
def holdPlacedBody (x : Station) (trip reference amount : Nat) (s : State) : State :=
  if referenceMax < reference then s.deny x kindHoldPlaced .badMessage none
  else withFare x kindHoldPlaced trip s (fun i t => holdPlacedOn x reference amount i t s)

/-- HOLD PLACED (R104). -/
def execHoldPlaced (x : Station) (trip : Half) (reference amount : Word) (s : State) : Result :=
  .next (takeMessage (holdPlacedBody x trip.toNat reference.toNat amount.toNat) s)

/-- R106: the fare's hold awaits its release at the station under the reference. -/
def awaitsReference (x : Station) (reference : Nat) (t : Trip) : Bool :=
  match t.hold with
  | some h => h.state == .releasePending && h.station == x && h.reference == reference
  | none => false

/-- R106: the unread notice is the RELEASE_HOLD of the fare's hold. -/
def isReleaseOf (t : Trip) (n : Option Notice) : Bool := n == some (releaseNotice t)

/-- R106: the ACK of an accepted HOLD RELEASED: in place of the hold's own RELEASE_HOLD, else by rank. -/
def State.acceptRelease (x : Station) (t : Trip) (s : State) : State :=
  if isReleaseOf t (s.link.notices.get x) then
    s.onLink (·.put x (.ack kindHoldReleased none t.number t.totalDue))
  else s.accept x kindHoldReleased t

/-- R106: the record with its hold RELEASED. -/
def Trip.releaseHold (t : Trip) : Trip :=
  match t.hold with
  | some h => t.withHold { h with state := .released }
  | none => t

/-- R106: an accepted HOLD RELEASED for the fare of a slot. -/
def State.releaseHold (x : Station) (i : Fin 4) (t : Trip) (s : State) : State :=
  ((s.putSlot i (some t.releaseHold)).raise .hold).acceptRelease x t

/-- R103, R106: HOLD RELEASED. -/
def holdReleasedBody (x : Station) (reference : Nat) (s : State) : State :=
  if referenceMax < reference then s.deny x kindHoldReleased .badMessage none
  else
    match lowestTrip (s.trips.filter (awaitsReference x reference)) with
    | none => s.deny x kindHoldReleased .noHold none
    | some t =>
      match s.findTrip t.number with
      | none => s.deny x kindHoldReleased .noHold none
      | some i => s.releaseHold x i t

/-- HOLD RELEASED (R106). -/
def execHoldReleased (x : Station) (reference : Word) (s : State) : Result :=
  .next (takeMessage (holdReleasedBody x reference.toNat) s)

/-! ### Card payment -/

/-- R107: PAY BEGIN on the fare found. -/
def payBeginOn (x : Station) (i : Fin 4) (t : Trip) (s : State) : State :=
  if t.state ≠ .stopped then s.deny x kindPayBegin .wrongState (some t)
  else if t.paymentOrNew.declines = s.store.active.declineLimit then s.deny x kindPayBegin .cardBlocked (some t)
  else ((s.putSlot i (some (t.beginPayment s.store.active.payTimeout))).raise .fare).accept x kindPayBegin t

/-- PAY BEGIN (R107). -/
def execPayBegin (x : Station) (trip : Half) (s : State) : Result :=
  .next (takeMessage (fun s => withFare x kindPayBegin trip.toNat s (fun i t => payBeginOn x i t s)) s)

/-- R109: the result repeats the one that settled the fare. -/
def Trip.isSameResult (t : Trip) (o : PayOutcome) (captured tip reference : Nat) : Bool :=
  o == .approved && t.paymentOrNew.cardRef == some reference && t.paymentOrNew.captured == captured
    && t.paymentOrNew.tip == tip

/-- R109: the fare is SETTLED with method CARD. -/
def Trip.isCardSettled (t : Trip) : Bool := t.state == .settled && t.paymentOrNew.method == .card

/-- R109: the highest tip of a card payment, by the tip cap of the last segment's tariff. -/
def State.tipLimit (s : State) (t : Trip) : Nat := t.totalDue * (s.tariffOf t).tipCap / 100

/-- R111: a declined result. -/
def State.payDeclined (x : Station) (i : Fin 4) (t : Trip) (s : State) : State :=
  ((((((s.putSlot i (some (t.endPayment .declined 1))).credit
      (fun sh => { sh with declines := satAdd sh.declines 1 })).raise .paymentDeclined).raise .fare).onIc
    (·.chimeAll .decline t.stations)).accept x kindPayResult t).postDue t

/-- R112: a cancelled result. -/
def State.payCancelled (x : Station) (i : Fin 4) (t : Trip) (s : State) : State :=
  (((s.putSlot i (some (t.endPayment .cancelled 0))).raise .fare).accept x kindPayResult t).postDue t

/-- R109: PAY RESULT on the fare found. -/
def payResultOn (x : Station) (o : PayOutcome) (captured tip reference : Nat) (i : Fin 4) (t : Trip) (s : State) : State :=
  if t.isCardSettled then
    if t.isSameResult o captured tip reference then s.accept x kindPayResult t
    else s.deny x kindPayResult .late (some t)
  else if t.state ≠ .settling then s.deny x kindPayResult .late (some t)
  else
    match o with
    | .approved =>
      if captured ≠ t.totalDue + tip then s.deny x kindPayResult .badAmount (some t)
      else if s.tipLimit t < tip then s.deny x kindPayResult .tipOverCap (some t)
      else s.settleByCard x i t reference captured tip
    | .declined => s.payDeclined x i t
    | .cancelled => s.payCancelled x i t

/-- R103, R109: PAY RESULT. -/
def payResultBody (x : Station) (trip : Nat) (outcome : Byte) (captured tip reference : Nat) (s : State) : State :=
  match outcomeArg outcome with
  | none => s.deny x kindPayResult .badMessage none
  | some o =>
    if referenceMax < reference then s.deny x kindPayResult .badMessage none
    else withFare x kindPayResult trip s (fun i t => payResultOn x o captured tip reference i t s)

/-- PAY RESULT (R109 to R112). -/
def execPayResult (x : Station) (trip : Half) (outcome : Byte) (captured tip reference : Word) (s : State) : Result :=
  .next (takeMessage (payResultBody x trip.toNat outcome captured.toNat tip.toNat reference.toNat) s)

/-- The payment timer of a SETTLING fare reaches 0 (R108): the settlement unit's own taking of the rollover that does so
(log entry 9). -/
def execPaymentTimerExpiry (i : Fin 4) (s : State) : Result :=
  .next (match s.slot i with
    | none => s
    | some t =>
      if s.supply.power = .active ∧ t.state = .settling ∧ t.paymentOrNew.timer ≤ 1 then
        (s.paymentExpires i t).followSign
      else s)

/-! ### Void -/

/-- R114: another slot holds an active fare. -/
def State.otherActive (s : State) (i : Fin 4) : Bool := slotNumbers.any (fun j => j != i && activeSlot (s.slot j))

/-- R114: an active fare has share permitted set to no. -/
def refusesShare (t : Option Trip) : Bool :=
  match t with
  | some t => t.state.isActive && !t.share
  | none => false

/-- R6, R114: a fare with this share setting would become active beside a fare that does not permit it. -/
def State.privateClash (s : State) (share otherActive : Bool) : Bool :=
  s.slots.list.any refusesShare || (!share && otherActive)

/-- R114: an accepted PAY VOID. -/
def State.voidPayment (x : Station) (i : Fin 4) (t : Trip) (s : State) : State :=
  (((((s.putSlot i (some t.voidPayment)).credit
      (fun sh => { sh.debitMoney t t.paymentOrNew.tip with voids := satAdd sh.voids 1 })).raise .fare).accept x
    kindPayVoid t).postDue t)

/-- R114: PAY VOID on the fare found. -/
def payVoidOn (x : Station) (reference : Nat) (i : Fin 4) (t : Trip) (s : State) : State :=
  if !t.isCardSettled || !s.shiftIsOpen then s.deny x kindPayVoid .wrongState (some t)
  else if t.paymentOrNew.cardRef ≠ some reference then s.deny x kindPayVoid .mismatch (some t)
  else if s.anyBound t.stations then s.deny x kindPayVoid .stationBusy (some t)
  else if s.privateClash t.share (s.otherActive i) then s.deny x kindPayVoid .privacy (some t)
  else s.voidPayment x i t

/-- R103, R114: PAY VOID. -/
def payVoidBody (x : Station) (trip reference : Nat) (s : State) : State :=
  if referenceMax < reference then s.deny x kindPayVoid .badMessage none
  else withFare x kindPayVoid trip s (fun i t => payVoidOn x reference i t s)

/-- PAY VOID (R114). -/
def execPayVoid (x : Station) (trip : Half) (reference : Word) (s : State) : Result :=
  .next (takeMessage (payVoidBody x trip.toNat reference.toNat) s)

/-! ### Fare query -/

/-- R115: the FARE notice of a station. -/
def State.fareNotice (s : State) (x : Station) : Notice :=
  match s.boundSlot x with
  | none => .fare 0 none 0
  | some i =>
    match s.slot i with
    | none => .fare 0 none 0
    | some t => .fare t.number (some t.state) t.totalDue

/-- FARE QUERY (R115). -/
def execFareQuery (x : Station) (s : State) : Result :=
  .next (takeMessage (fun s => s.post x (s.fareNotice x)) s)

/-! ### Cash and unpaid -/

/-- R116: the highest tip of RECORD CASH. -/
def cashTipMax : Nat := 9999999

/-- R116: RECORD CASH. -/
def recordCashBody (slot : Byte) (tip : Nat) (s : State) : Reply × State :=
  withSlot 10 slot s (fun i t =>
    if cashTipMax < tip then refuse 10 .badArg s
    else if t.state = .settling then refuse 10 .paying s
    else if t.state ≠ .stopped then refuse 10 .badState s
    else
      ok (tripDue t ++ le4 (t.totalDue + tip))
        ((s.settleByDriver i t .cash (t.totalDue + tip) tip).onIc (·.chimeAll .paid t.stations)))

/-- RECORD CASH (R116). -/
def execRecordCash (slot : Byte) (tip : Word) (s : State) : Result :=
  .next (takeCommand 5 (recordCashBody slot tip.toNat) s)

/-- R117: DECLARE UNPAID. -/
def declareUnpaidBody (slot : Byte) (s : State) : Reply × State :=
  withSlot 6 slot s (fun i t =>
    if t.state = .settling then refuse 6 .paying s
    else if t.state ≠ .stopped then refuse 6 .badState s
    else ok (tripDue t) (s.settleByDriver i t .unpaid 0 0))

/-- DECLARE UNPAID (R117). -/
def execDeclareUnpaid (slot : Byte) (s : State) : Result :=
  .next (takeCommand 1 (declareUnpaidBody slot) s)

end Sys2Proof.Machine
end

