-- ==== Sys2Proof/Machine/FareTable.lean ====
section
/-! DEFINITION. The fare table's commands (chapter 1): START FARE, PAUSE FARE, RESUME FARE, STOP FARE, REOPEN FARE, ADD
EXTRA, CANCEL EXTRA, READ TRIP and RELEASE TRIP. -/

namespace Sys2Proof.Machine

/-! ### Trip numbers (R4) -/

/-- R4: the next-trip counter advanced by 1, from 65,535 to 1. -/
def nextNumber (n : Nat) : Nat := if n = 65535 then 1 else n + 1

/-- R4: the first number in counting order from `n` that is not held; `fuel` numbers may be passed over. -/
def freshNumber (held : List Nat) : Nat → Nat → Nat
  | 0, n => n
  | fuel + 1, n => if n ∈ held then freshNumber held fuel (nextNumber n) else n

/-- R4: the trip numbers of the occupied slots. -/
def State.heldNumbers (s : State) : List Nat := s.trips.map (·.number)

/-- R4: the trip number START FARE takes under a shift. -/
def State.takenNumber (s : State) (sh : Shift) : Nat := freshNumber s.heldNumbers s.heldNumbers.length sh.nextTrip

/-! ### START FARE -/

/-- R1: the lowest-numbered FREE slot. -/
def State.freeSlot (s : State) : Option (Fin 4) := slotNumbers.find? (fun i => (s.slot i).isNone)

/-- R6: a MANUAL selection of a tariff that is not defined, or not driver-selectable. -/
def manualRefused (img : Image) (sel : Selection) : Bool :=
  match sel with
  | .calendar => false
  | .manual t => !img.isDefined t || (img.tariff t).driverSelectable != 1

/-- R7: the first segment's tariff. -/
def State.firstTariff (s : State) (sel : Selection) : Option Nat :=
  match sel with
  | .calendar => s.cal.tariff
  | .manual t => some t

/-- R7, R46: the trip record START FARE creates. -/
def newTrip (number : Nat) (set : StationSet) (share : Bool) (sel : Selection) (now : Stamp) (tariff : Nat)
    (tar : Tariff) : Trip :=
  { state := .running, number := number, stations := set, share := share, selection := sel,
    start := now, stop := none, segments := [newSegment tariff now], segmentsFull := false, saturated := false,
    distanceFault := false, powerPaused := false, progress := 0, remainder := 0, window := 0,
    freeSteps := tar.includedSteps, flagFall := tar.flagFall, stepTotal := 0, extras := [], extrasTotal := 0,
    totalDue := tar.flagFall, hiredMetres := 0, hiredSeconds := 0, grace := none, payment := none }

/-- R7, R8: an accepted START FARE in a slot, with the number taken. -/
def State.startFare (i : Fin 4) (t : Trip) (s : State) : State :=
  ((s.putSlot i (some t)).credit
      (fun sh => { sh with tripsStarted := satAdd sh.tripsStarted 1, nextTrip := nextNumber t.number })).count
    (fun c => { c with hirings := satAdd c.hirings 1 })

/-- R6: the checks of START FARE from NO_TARIFF on, with a shift that is OPEN. -/
def startFareUnder (sh : Shift) (set : StationSet) (share : Bool) (sel : Selection) (s : State) : Reply × State :=
  if !s.store.valid then refuse 7 .noTariff s
  else if manualRefused s.store.active sel then refuse 7 .badArg s
  else
    match s.firstTariff sel with
    | none => refuse 7 .noTariff s
    | some tariff =>
      match s.freeSlot with
      | none => refuse 7 .noSlot s
      | some i =>
        if s.anyBound set then refuse 7 .stationBusy s
        else if s.privateClash share s.anyActive then refuse 7 .privacy s
        else
          let t := newTrip (s.takenNumber sh) set share sel s.cal.time tariff (s.store.active.tariff tariff)
          ok (byte i.val :: tripDue t) (s.startFare i t)

/-- R6: START FARE with arguments that have a meaning. Its order is R6's, NO_SHIFT before CLOCK_UNSET, also after a cold
start, of which R27 speaks otherwise (log entry 35). -/
def startFareWith (set : StationSet) (share : Bool) (sel : Selection) (s : State) : Reply × State :=
  match s.shift with
  | none => refuse 7 .noShift s
  | some sh =>
    if sh.state ≠ .opened then refuse 7 .noShift s
    else if !s.cal.clockSet then refuse 7 .clockUnset s
    else if s.store.busy then refuse 7 .busy s
    else startFareUnder sh set share sel s

/-- R6, R7: START FARE. -/
def startFareBody (set share selection tariff : Byte) (s : State) : Reply × State :=
  match setArg set, switchArg share, selectionArg selection tariff with
  | some set, some share, some sel => startFareWith set share sel s
  | _, _, _ => refuse 7 .badArg s

/-- START FARE (R6 to R8). -/
def execStartFare (set share selection tariff : Byte) (s : State) : Result :=
  .next (takeCommand 4 (startFareBody set share selection tariff) s)

/-! ### PAUSE, RESUME, STOP, REOPEN -/

/-- The response of a slot command that was carried out: trip number and total due after it. -/
def okSlot (i : Fin 4) (s : State) : Reply × State := ok (s.slotDue i) s

/-- R9: an accepted PAUSE FARE: the partial window settled, then PAUSED. -/
def State.pauseFare (i : Fin 4) (s : State) : State :=
  (s.settleSlot s.runningCount i).modSlot i (fun t => { t with state := .paused })

/-- R9: PAUSE FARE. -/
def pauseFareBody (slot : Byte) (s : State) : Reply × State :=
  withSlot 6 slot s (fun i t => if t.state = .running then okSlot i (s.pauseFare i) else refuse 6 .badState s)

/-- PAUSE FARE (R9). -/
def execPauseFare (slot : Byte) (s : State) : Result := .next (takeCommand 1 (pauseFareBody slot) s)

/-- R10: RESUME FARE. -/
def resumeFareBody (slot : Byte) (s : State) : Reply × State :=
  withSlot 6 slot s (fun i t =>
    if t.state = .paused then
      okSlot i (s.putSlot i (some { t with state := .running, powerPaused := false }))
    else refuse 6 .badState s)

/-- RESUME FARE (R10). -/
def execResumeFare (slot : Byte) (s : State) : Result := .next (takeCommand 1 (resumeFareBody slot) s)

/-- R11: the record of a fare that stops. -/
def Trip.stopAt (now : Stamp) (t : Trip) : Trip :=
  { t with state := .stopped, stop := some now, grace := some { count := 0, attempted := false } }

/-- R11: the DUE notices and the stop chimes of the fare in a slot. -/
def State.announceStop (i : Fin 4) (s : State) : State :=
  match s.slot i with
  | none => s
  | some t => (s.postDue t).onIc (·.chimeAll .stop t.stations)

/-- R11: an accepted STOP FARE, in its order; a PAUSED fare's window is already 0 and is left so. -/
def State.stopFare (i : Fin 4) (s : State) : State :=
  ((s.settleSlot s.runningCount i).modSlot i (Trip.stopAt s.cal.time)).announceStop i

/-- R11: STOP FARE. -/
def stopFareBody (slot : Byte) (s : State) : Reply × State :=
  withSlot 6 slot s (fun i t =>
    if t.state = .running ∨ t.state = .paused then okSlot i (s.stopFare i) else refuse 6 .badState s)

/-- STOP FARE (R11). -/
def execStopFare (slot : Byte) (s : State) : Result := .next (takeCommand 1 (stopFareBody slot) s)

/-- R13, R41: a reopened fare takes the calendar tariff in force when it lags behind it; an absent one starts no segment. -/
def State.catchUp (s : State) (t : Trip) : Trip :=
  match s.cal.tariff with
  | none => t
  | some c => if t.lags c then startSegment s.store.active c s.cal.time t else t

/-- R13: the record of a fare that is reopened. -/
def State.reopened (s : State) (t : Trip) : Trip :=
  s.catchUp { t with state := .running, stop := none, grace := none }

/-- R13: the reopen grace refuses a STOPPED fare: a payment has been attempted, or the count has reached 20. -/
def graceRefusal (t : Trip) : Option ResultCode :=
  match t.grace with
  | none => some .tooLate
  | some g => if g.attempted then some .paying else if graceMax ≤ g.count then some .tooLate else none

/-- R13: REOPEN FARE. -/
def reopenFareBody (slot : Byte) (s : State) : Reply × State :=
  withSlot 6 slot s (fun i t =>
    if t.state = .settling then refuse 6 .paying s
    else if t.state ≠ .stopped then refuse 6 .badState s
    else
      match graceRefusal t with
      | some code => refuse 6 code s
      | none => okSlot i (s.putSlot i (some (s.reopened t))))

/-- REOPEN FARE (R13). -/
def execReopenFare (slot : Byte) (s : State) : Result := .next (takeCommand 1 (reopenFareBody slot) s)

/-! ### Extras -/

/-- The count of a kind in an extras list. -/
def extraCount (kind : Nat) : List Extra → Nat
  | [] => 0
  | e :: rest => if e.kind = kind then e.count else extraCount kind rest

/-- R3: a kind's count raised in place, or a new entry at the end. -/
def addExtra (kind n : Nat) : List Extra → List Extra
  | [] => [{ kind := kind, count := n }]
  | e :: rest => if e.kind = kind then { e with count := e.count + n } :: rest else e :: addExtra kind n rest

/-- R3: a kind's count lowered by 1; an entry that reaches 0 is removed. -/
def cancelExtra (kind : Nat) : List Extra → List Extra
  | [] => []
  | e :: rest =>
    if e.kind = kind then (if e.count ≤ 1 then rest else { e with count := e.count - 1 } :: rest)
    else e :: cancelExtra kind rest

/-- R15: the record with an extra added. -/
def Trip.addExtra (kind n amount : Nat) (t : Trip) : Trip :=
  { t with extras := Machine.addExtra kind n t.extras, extrasTotal := t.extrasTotal + n * amount }.recompute

/-- R16: the record with one count of an extra removed. -/
def Trip.cancelExtra (kind amount : Nat) (t : Trip) : Trip :=
  { t with extras := Machine.cancelExtra kind t.extras, extrasTotal := t.extrasTotal - amount }.recompute

/-- R15, R16: a STOPPED fare's new total posted again as DUE to each of its stations. -/
def State.repostDue (t : Trip) (s : State) : State := if t.state = .stopped then s.postDue t else s

/-- R15: an accepted ADD EXTRA: the record, the hold warning check, then the DUE of a STOPPED fare. -/
def State.addExtra (i : Fin 4) (t : Trip) (s : State) : State := ((s.putSlot i (some t)).holdWarning i).repostDue t

/-- Section 11.6: the response of ADD EXTRA and CANCEL EXTRA. -/
def extraResponse (kind : Nat) (t : Trip) : List Byte := byte (extraCount kind t.extras) :: le4 t.totalDue

/-- R14: BAD_ARG for ADD EXTRA: a kind outside 1 to 8, a count outside 1 to 9, or a kind that is not offered. -/
def extraArgBad (img : Image) (kind count : Nat) : Bool :=
  !within 1 8 kind || !within 1 9 count || (img.extraKind kind).amount == 0

/-- R14, R15: ADD EXTRA. -/
def addExtraBody (slot : Byte) (kind count : Nat) (s : State) : Reply × State :=
  withSlot 5 slot s (fun i t =>
    if extraArgBad s.store.active kind count then refuse 5 .badArg s
    else if t.state = .settling then refuse 5 .paying s
    else if t.state = .settled then refuse 5 .badState s
    else if (s.store.active.extraKind kind).maximum < extraCount kind t.extras + count then refuse 5 .limit s
    else if dueMax < t.totalDue + count * (s.store.active.extraKind kind).amount then refuse 5 .limit s
    else
      let t' := t.addExtra kind count (s.store.active.extraKind kind).amount
      ok (extraResponse kind t') (s.addExtra i t'))

/-- ADD EXTRA (R14, R15). -/
def execAddExtra (slot kind count : Byte) (s : State) : Result :=
  .next (takeCommand 3 (addExtraBody slot kind.toNat count.toNat) s)

/-- R16: CANCEL EXTRA. -/
def cancelExtraBody (slot : Byte) (kind : Nat) (s : State) : Reply × State :=
  withSlot 5 slot s (fun i t =>
    if !within 1 8 kind then refuse 5 .badArg s
    else if t.state = .settling then refuse 5 .paying s
    else if t.state = .settled then refuse 5 .badState s
    else if t.extras.all (fun e => e.kind != kind) then refuse 5 .badArg s
    else
      let t' := t.cancelExtra kind (s.store.active.extraKind kind).amount
      ok (extraResponse kind t') ((s.putSlot i (some t')).repostDue t'))

/-- CANCEL EXTRA (R16). -/
def execCancelExtra (slot kind : Byte) (s : State) : Result :=
  .next (takeCommand 2 (cancelExtraBody slot kind.toNat) s)

/-! ### Reading and releasing -/

/-- R17: READ TRIP. -/
def readTripBody (slot : Byte) (s : State) : Reply × State :=
  withSlot 181 slot s (fun _ t => ok (tripBlock t) s)

/-- READ TRIP (R17). -/
def execReadTrip (slot : Byte) (s : State) : Result := .next (takeCommand 1 (readTripBody slot) s)

/-- R18: an accepted RELEASE TRIP: the totalizers credited, the record discarded. -/
def State.releaseTrip (i : Fin 4) (t : Trip) (s : State) : State :=
  (s.count (fun c => { c with tripsCompleted := satAdd c.tripsCompleted 1,
                              moneyCharged := satAdd c.moneyCharged t.totalDue })).putSlot i none

/-- R18: RELEASE TRIP. -/
def releaseTripBody (slot : Byte) (trip : Nat) (s : State) : Reply × State :=
  withSlot 0 slot s (fun i t =>
    if t.state ≠ .settled then refuse 0 .badState s
    else if t.number ≠ trip then refuse 0 .mismatch s
    else if t.hold.any (·.state == .releasePending) then refuse 0 .holdOpen s
    else ok [] (s.releaseTrip i t))

/-- RELEASE TRIP (R18). -/
def execReleaseTrip (slot : Byte) (trip : Half) (s : State) : Result :=
  .next (takeCommand 3 (releaseTripBody slot trip.toNat) s)

end Sys2Proof.Machine
end

