-- ==== Sys2Proof/Machine/ShiftUnit.lean ====
section
/-! DEFINITION. The shift unit's commands (chapter 9): SHIFT OPEN, SHIFT BREAK, SHIFT RESUME, SHIFT CLOSE, READ SHIFT,
RELEASE SHIFT and READ TOTALIZERS, and the break second of a rollover (R157). -/

namespace Sys2Proof.Machine

/-! ### Opening -/

/-- R154: the shift number a shift counter gives. -/
def shiftNumber (counter : Nat) : Nat := (counter - 1) % 65535 + 1

/-- R152: a shift record as SHIFT OPEN creates it. -/
def newShift (number driver : Nat) (now : Stamp) : Shift :=
  { number := number, driver := driver, state := .opened, openStamp := now, closeStamp := none, nextTrip := 1,
    tripsStarted := 0, cardSettlements := 0, cashSettlements := 0, unpaidSettlements := 0, voids := 0, declines := 0,
    flagFallTotal := 0, stepTotal := 0, extrasTotal := 0, cardFares := 0, cashFares := 0, unpaidFares := 0, tips := 0,
    hiredMetres := 0, totalMetres := 0, hiredSeconds := 0, breakSeconds := 0, overspeedSeconds := 0,
    sensorFaults := 0, lampFaults := 0, alerts := 0, missedCalls := 0, firstFault := none, adjustmentSum := 0,
    allowance := 180 }

/-- R154, R165: the shift counter raised by an opening. -/
def countOpening (t : Totalizers) : Totalizers := { t with shiftCounter := satAdd t.shiftCounter 1 }

/-- R154: the number the next shift takes. -/
def State.nextShiftNumber (s : State) : Nat := shiftNumber (satAdd s.tot.shiftCounter 1)

/-- R155: an accepted SHIFT OPEN. -/
def State.openShift (driver : Nat) (s : State) : State :=
  (s.count countOpening).putShift (some (newShift s.nextShiftNumber driver s.cal.time))

/-- R155: SHIFT OPEN. -/
def shiftOpenBody (driver : Nat) (s : State) : Reply × State :=
  if !within 1 999999 driver then refuse 9 .badArg s
  else if s.shift.isSome then refuse 9 .badState s
  else if s.prev.isSome then refuse 9 .uncollected s
  else if !s.cal.clockSet then refuse 9 .clockUnset s
  else ok (le2 s.nextShiftNumber ++ stampBytes s.cal.time) (s.openShift driver)

/-- SHIFT OPEN (R154, R155). -/
def execShiftOpen (driver : Word) (s : State) : Result := .next (takeCommand 4 (shiftOpenBody driver.toNat) s)

/-! ### Breaks -/

/-- The current shift record set to a state. -/
def State.setShiftState (st : ShiftState) (s : State) : State := s.credit (fun sh => { sh with state := st })

/-- R156: SHIFT BREAK. -/
def shiftBreakBody (s : State) : Reply × State :=
  match s.shift with
  | none => refuse 1 .noShift s
  | some sh =>
    if sh.state ≠ .opened then refuse 1 .badState s
    else if s.anyActive then refuse 1 .openTrips s
    else ok [shiftCode (some .onBreak)] (s.setShiftState .onBreak)

/-- SHIFT BREAK (R156). -/
def execShiftBreak (s : State) : Result := .next (takeCommand 0 shiftBreakBody s)

/-- R156: SHIFT RESUME. -/
def shiftResumeBody (s : State) : Reply × State :=
  match s.shift with
  | none => refuse 1 .noShift s
  | some sh =>
    if sh.state ≠ .onBreak then refuse 1 .badState s
    else ok [shiftCode (some .opened)] (s.setShiftState .opened)

/-- SHIFT RESUME (R156). -/
def execShiftResume (s : State) : Result := .next (takeCommand 0 shiftResumeBody s)

/-- R157: a break second of the current record. -/
def Shift.breakSecond (sh : Shift) : Shift :=
  if sh.state = .onBreak then { sh with breakSeconds := satAdd sh.breakSeconds 1 } else sh

/-! ### Closing -/

/-- R158: an accepted SHIFT CLOSE: CLOSING, and a mirror write with the live totalizers begins. -/
def State.beginClose (s : State) : State := (s.setShiftState .closing).onStore (·.beginMirror s.tot)

/-- R158: SHIFT CLOSE. -/
def shiftCloseBody (s : State) : Reply × State :=
  match s.shift with
  | none => refuse 2 .noShift s
  | some sh =>
    if sh.state = .closing then refuse 2 .badState s
    else if s.store.busy then refuse 2 .busy s
    else if s.prev.isSome then refuse 2 .uncollected s
    else if s.anyOccupied then refuse 2 .openTrips s
    else ok (le2 sh.number) s.beginClose

/-- SHIFT CLOSE (R158). -/
def execShiftClose (s : State) : Result := .next (takeCommand 0 shiftCloseBody s)

/-! ### Reading and collecting -/

/-- R162: the record READ SHIFT names, 0 the current and 1 the previous. -/
def State.namedShift (s : State) (which : Byte) : Option (Option Shift) :=
  if which = 0 then some s.shift else if which = 1 then some s.prev else none

/-- R162: READ SHIFT. -/
def readShiftBody (which : Byte) (s : State) : Reply × State :=
  match s.namedShift which with
  | none => refuse 122 .badArg s
  | some none => refuse 122 .badState s
  | some (some sh) => ok (shiftBlock sh) s

/-- READ SHIFT (R162). -/
def execReadShift (which : Byte) (s : State) : Result := .next (takeCommand 1 (readShiftBody which) s)

/-- R163: RELEASE SHIFT. -/
def releaseShiftBody (number : Nat) (s : State) : Reply × State :=
  match s.prev with
  | none => refuse 0 .badState s
  | some sh => if sh.number ≠ number then refuse 0 .mismatch s else ok [] (s.putPrev none)

/-- RELEASE SHIFT (R163). -/
def execReleaseShift (number : Half) (s : State) : Result :=
  .next (takeCommand 2 (releaseShiftBody number.toNat) s)

/-- READ TOTALIZERS (R166). -/
def execReadTotalizers (s : State) : Result := .next (takeCommand 0 (fun s => ok (totalizerBlock s.tot) s) s)

end Sys2Proof.Machine
end

