-- ==== Sys2Proof/Machine/Rollover.lean ====
section
/-! DEFINITION. The second rollover as every block takes it (R62 and the list under it), in the order of log entry 10,
and the 50 ms period that the part passes while no command waits (log entry 11). -/

namespace Sys2Proof.Machine

/-- A part of a rollover that advances only while the power state is ACTIVE (R64). -/
def State.inActive (f : State → State) (s : State) : State := if s.supply.power = .active then f s else s

/-- A part of a rollover that is not taken in HOLDOVER. -/
def State.outsideHoldover (f : State → State) (s : State) : State := if s.supply.power = .holdover then s else f s

/-- R12, R108: the reopen grace counts, then the payment timers, slot by slot. -/
def State.fareTimers (s : State) : State := forSlots State.paymentTick (forSlots graceTick s)

/-- R157: the break second of the current shift. -/
def State.breakTick (s : State) : State := s.credit Shift.breakSecond

/-- R76: the evaluation a minute rollover brings. -/
def State.minuteTick (s : State) : State := if s.cal.time.second = 0 then s.evaluate else s

/-- A second rollover (R62): the stamp; the fare second; the close of the second; grace, payment, intercom, break and
ignition-off timers; at a minute rollover the evaluation; and the sign derived again (R141). -/
def execSecondRollover (s : State) : Result :=
  .next (((((((((s.tickCalendar).fareSecond).closeSecond).inActive State.fareTimers).inActive State.intercomTick).outsideHoldover
    State.breakTick).ignitionTick).outsideHoldover State.minuteTick).followSign)

/-- One 50 ms period of the sounding chimes (R127, R135), in ACTIVE. -/
def State.chimePeriod (s : State) : State := s.inActive (State.onIc Intercom.period)

end Sys2Proof.Machine
end

