-- ==== Sys2Proof/Machine/Dispatch.lean ====
section
/-! DEFINITION. The meaning of each command: one arm per constructor of `Instr`, each one call. -/

namespace Sys2Proof.Machine

def exec (i : Instr) (s : State) : Host.Outcome State Fault Refusal :=
  match i with
  | .startFare set share selection tariff => Sys2Proof.Machine.execStartFare set share selection tariff s
  | .pauseFare slot => Sys2Proof.Machine.execPauseFare slot s
  | .resumeFare slot => Sys2Proof.Machine.execResumeFare slot s
  | .stopFare slot => Sys2Proof.Machine.execStopFare slot s
  | .reopenFare slot => Sys2Proof.Machine.execReopenFare slot s
  | .addExtra slot kind count => Sys2Proof.Machine.execAddExtra slot kind count s
  | .cancelExtra slot kind => Sys2Proof.Machine.execCancelExtra slot kind s
  | .readTrip slot => Sys2Proof.Machine.execReadTrip slot s
  | .releaseTrip slot trip => Sys2Proof.Machine.execReleaseTrip slot trip s
  | .recordCash slot tip => Sys2Proof.Machine.execRecordCash slot tip s
  | .declareUnpaid slot => Sys2Proof.Machine.execDeclareUnpaid slot s
  | .setClock year month day hour minute second => Sys2Proof.Machine.execSetClock year month day hour minute second s
  | .adjustClock seconds => Sys2Proof.Machine.execAdjustClock seconds s
  | .readClock => Sys2Proof.Machine.execReadClock s
  | .loadStage => Sys2Proof.Machine.execLoadStage s
  | .stageWrite selector value => Sys2Proof.Machine.execStageWrite selector value s
  | .readItem source selector => Sys2Proof.Machine.execReadItem source selector s
  | .enableCommit => Sys2Proof.Machine.execEnableCommit s
  | .commit => Sys2Proof.Machine.execCommit s
  | .standby => Sys2Proof.Machine.execStandby s
  | .answer station => Sys2Proof.Machine.execAnswer station s
  | .openStation station => Sys2Proof.Machine.execOpen station s
  | .closeStation station => Sys2Proof.Machine.execClose station s
  | .talkPress set => Sys2Proof.Machine.execTalkPress set s
  | .talkRelease => Sys2Proof.Machine.execTalkRelease s
  | .signDuty value => Sys2Proof.Machine.execSignDuty value s
  | .shareAccept value => Sys2Proof.Machine.execShareAccept value s
  | .signSetup filter => Sys2Proof.Machine.execSignSetup filter s
  | .clearAlert => Sys2Proof.Machine.execClearAlert s
  | .shiftOpen driver => Sys2Proof.Machine.execShiftOpen driver s
  | .shiftBreak => Sys2Proof.Machine.execShiftBreak s
  | .shiftResume => Sys2Proof.Machine.execShiftResume s
  | .shiftClose => Sys2Proof.Machine.execShiftClose s
  | .readShift which => Sys2Proof.Machine.execReadShift which s
  | .releaseShift number => Sys2Proof.Machine.execReleaseShift number s
  | .readTotalizers => Sys2Proof.Machine.execReadTotalizers s
  | .readStatus => Sys2Proof.Machine.execReadStatus s
  | .readEvents => Sys2Proof.Machine.execReadEvents s
  | .setEventMask mask => Sys2Proof.Machine.execSetEventMask mask s
  | .watch block hold => Sys2Proof.Machine.execWatch block hold s
  | .identify => Sys2Proof.Machine.execIdentify s
  | .badCommand code => Sys2Proof.Machine.execBadCommand code s
  | .dcsFalling => Sys2Proof.Machine.execDcsFalling s
  | .dcsRising clocked => Sys2Proof.Machine.execDcsRising clocked s
  | .watchModeExit => Sys2Proof.Machine.execWatchModeExit s
  | .linkReset => Sys2Proof.Machine.execLinkReset s
  | .holdPlaced station trip reference amount => Sys2Proof.Machine.execHoldPlaced station trip reference amount s
  | .holdReleased station reference => Sys2Proof.Machine.execHoldReleased station reference s
  | .payBegin station trip => Sys2Proof.Machine.execPayBegin station trip s
  | .payResult station trip outcome captured tip reference => Sys2Proof.Machine.execPayResult station trip outcome captured tip reference s
  | .payVoid station trip reference => Sys2Proof.Machine.execPayVoid station trip reference s
  | .fareQuery station => Sys2Proof.Machine.execFareQuery station s
  | .selectorWrite station => Sys2Proof.Machine.execSelectorWrite station s
  | .partitionWriteDiscarded bytes => Sys2Proof.Machine.execPartitionWriteDiscarded bytes s
  | .noticeRead part => Sys2Proof.Machine.execNoticeRead part s
  | .secondRollover => Sys2Proof.Machine.execSecondRollover s
  | .paymentTimerExpiry slot => Sys2Proof.Machine.execPaymentTimerExpiry slot s
  | .callTimerExpiry station => Sys2Proof.Machine.execCallTimerExpiry station s
  | .connectionExpiry => Sys2Proof.Machine.execConnectionExpiry s
  | .talkExpiry => Sys2Proof.Machine.execTalkExpiry s
  | .ignitionOffTimerExpiry => Sys2Proof.Machine.execIgnitionOffTimerExpiry s
  | .callChimeEnd => Sys2Proof.Machine.execCallChimeEnd s
  | .fareChimeEnd station => Sys2Proof.Machine.execFareChimeEnd station s
  | .acceptedEdge edge => Sys2Proof.Machine.execAcceptedEdge edge s
  | .dsensSample high => Sys2Proof.Machine.execDsensSample high s
  | .svcSample high => Sys2Proof.Machine.execSvcSample high s
  | .buttonSample station pressed => Sys2Proof.Machine.execButtonSample station pressed s
  | .lampPeriodEnd inWindow => Sys2Proof.Machine.execLampPeriodEnd inWindow s
  | .alswSample pressed inWindow => Sys2Proof.Machine.execAlswSample pressed inWindow s
  | .ignSample high => Sys2Proof.Machine.execIgnSample high s
  | .supplyLoss => Sys2Proof.Machine.execSupplyLoss s
  | .supplyReturn => Sys2Proof.Machine.execSupplyReturn s
  | .coldStart => Sys2Proof.Machine.execColdStart s
  | .commitWriteSuccess => Sys2Proof.Machine.execCommitWriteSuccess s
  | .commitWriteFailure => Sys2Proof.Machine.execCommitWriteFailure s
  | .mirrorWriteSuccess => Sys2Proof.Machine.execMirrorWriteSuccess s
  | .mirrorWriteFailure => Sys2Proof.Machine.execMirrorWriteFailure s
  | .drstRising => Sys2Proof.Machine.execDrstRising s
  | .batteryDomainLoss => Sys2Proof.Machine.execBatteryDomainLoss s

end Sys2Proof.Machine
end

