-- ==== Sys2Proof/Machine/Pins.lean ====
section
/-! DEFINITION. What the part's outputs show of its state: DIRQ, PATTN, the lamp drivers, the audio crosspoint, the bytes
of DMISO, and the acknowledgements and bytes of PSDA. Nothing here is held; every output is derived from the state. -/

namespace Sys2Proof.Machine

/-- R182: DIRQ is driven low while an enabled flag is pending, and is released in HOLDOVER. -/
def State.dirqLow (s : State) : Bool := s.supply.power != .holdover && enabledEvents s.dash != 0

/-- R189: PATTN is driven low while either slot holds a notice. -/
def State.pattnLow (s : State) : Bool := s.link.notices.left.isSome || s.link.notices.right.isSome

/-- R142: the lamps that are lit. -/
def State.litLamps (s : State) : Lamps Bool := lit s.sign.shown s.sign.flashLit

/-- R123: a route of the audio crosspoint. -/
inductive Route where
  /-- The microphone of a station to the driver speaker, and the driver microphone to that station's speaker. -/
  | conversation (x : Station)
  /-- The driver microphone to the speakers of a set. -/
  | announcement (set : StationSet)
  /-- A call chime on the driver speaker. -/
  | callChime (x : Station)
  /-- A fare chime on a station's speaker. -/
  | fareChime (x : Station) (kind : ChimeKind)
  deriving DecidableEq, Repr

/-- R122, R133: the route the driver path gives. A CALLING station of the set hears the announcement, as R133 says, although
R123 says that it hears nothing from the crosspoint until it is answered (log entry 39). -/
def pathRoutes (p : DriverPath) : List Route :=
  match p with
  | .free => []
  | .talk set => [.announcement set]
  | .linked x => [.conversation x]

/-- R135: the route of a fare chime sounding at a station, a CALLING one too (R135; R123 beside it: log entry 39). -/
def chimeRoutes (x : Station) (f : Option FareChime) : List Route :=
  match f with
  | none => []
  | some f => [.fareChime x f.kind]

/-- R127: the route of a sounding call chime. -/
def toneRoutes (t : Option CallTone) : List Route :=
  match t with
  | none => []
  | some t => [.callChime t.station]

/-- R123, R137: the routes of the crosspoint, none outside ACTIVE. What a CALLING station hears is log entry 39. -/
def State.routes (s : State) : List Route :=
  if s.supply.power = .active then
    pathRoutes s.ic.path ++ toneRoutes s.ic.tone ++ chimeRoutes .left s.ic.stations.left.fareChime
      ++ chimeRoutes .right s.ic.stations.right.fareChime
  else []

/-- R179: byte `n` of an answered frame: 0xFF through the turnaround, then result, response, and 0xFF. -/
def answerByte (args : Nat) (result : ResultCode) (response : List Byte) (n : Nat) : Byte :=
  if n < args + 2 then 0xFF
  else if n = args + 2 then result.code
  else response.getD (n - (args + 3)) 0xFF

/-- R179, R184: the byte that DMISO carries as byte `n` of the frame in progress. -/
def FrameState.outByte (f : FrameState) (n : Nat) : Byte :=
  match f with
  | .answered args result response _ => answerByte args result response n
  | .watching snapshot => snapshot.getD (n % snapshot.length) 0xFF
  | .watchEnded snapshot => if n = 0 then snapshot.getD 0 0xFF else 0xFF
  | .idle => 0xFF
  | .receiving => 0xFF
  | .discarded => 0xFF

/-- R179: the byte that DMISO carries next, by the bytes counted of the frame. -/
def DashLink.dmiso (d : DashLink) : Byte := d.frame.outByte d.counted

/-! ### The partition link (R186, R187) -/

/-- R186: the address of the part on the partition link. -/
def partitionAddress : BitVec 7 := 0x2C

/-- R186: an address is acknowledged in ACTIVE when it is the part's own, and never in STANDBY or HOLDOVER. -/
def State.acknowledges (address : BitVec 7) (s : State) : Bool :=
  s.supply.power == .active && address == partitionAddress

/-- R186: the acknowledgements of a write of `n` data bytes to an address, the address's first: the part answers every
data byte of a write to its own address. -/
def State.writeAcks (address : BitVec 7) (n : Nat) (s : State) : List Bool :=
  List.replicate (n + 1) (s.acknowledges address)

/-- R187: the byte that PSDA carries as byte `n` of the read in progress; the line is released when there is none. -/
def State.psdaByte (s : State) (n : Nat) : Byte :=
  match s.link.read with
  | some r => r.outByte n
  | none => 0xFF

end Sys2Proof.Machine
end

