-- ==== Sys2Proof/Safety.lean ====
section
/-! DEFINITION. What holds of the part between events: the invariants that the manual's prose states of the whole
machine, in the terms the statements use. -/

namespace Sys2Proof.Machine

/-! ### Fares -/

/-- R2: in every record the total due is flag fall plus step amount total plus extras total. -/
def DueIsSum (s : State) : Prop := ∀ i t, s.slot i = some t → t.totalDue = t.flagFall + t.stepTotal + t.extrasTotal

/-- R4: the trip numbers of two occupied slots differ. -/
def TripNumbersDiffer (s : State) : Prop :=
  ∀ i j t u, s.slot i = some t → s.slot j = some u → i ≠ j → t.number ≠ u.number

/-- R21: each station is bound to at most one active fare. -/
def BoundOnce (s : State) : Prop :=
  ∀ x i j, bindsStation x (s.slot i) = true → bindsStation x (s.slot j) = true → i = j

/-- R29: the window of a RUNNING fare is at most the global window, which is at most 90; every other window is 0. -/
def WindowsAgree (s : State) : Prop :=
  s.dist.window ≤ 90
    ∧ ∀ i t, s.slot i = some t → (if t.state = .running then t.window ≤ s.dist.window else t.window = 0)

/-- R6, R156, R158: a slot is occupied only under a shift that is not CLOSING, and active only under an OPEN one. -/
def FaresUnderShift (s : State) : Prop :=
  ∀ i t, s.slot i = some t →
    ∃ sh, s.shift = some sh ∧ sh.state ≠ .closing ∧ (t.state.isActive = true → sh.state = .opened)

/-- R25, R173: no fare is active in STANDBY, and none is RUNNING in HOLDOVER. -/
def FaresFitPower (s : State) : Prop :=
  ∀ i t, s.slot i = some t →
    (s.supply.power = .standby → t.state.isActive = false) ∧ (s.supply.power = .holdover → t.state ≠ .running)

/-- R92: every slot is FREE during a commit write. -/
def FreeDuringCommit (s : State) : Prop := s.store.state = .commitWrite → ∀ i, s.slot i = none

/-- R96: a store write is interrupted by supply loss, so that none is in progress in HOLDOVER. -/
def StoreIdleUnpowered (s : State) : Prop := s.supply.power = .holdover → s.store.state = .idle

/-- R37, R105: the record `new` made of the RUNNING fare `old` has the warning of its hold `h` given: the step amount total
changed, and the hold is HELD, not yet warned, and at its threshold. -/
def WarnsHold (s : State) (old new : Trip) (h : Hold) : Prop :=
  new.stepTotal ≠ old.stepTotal ∧ h.state = .held ∧ h.warned = false
    ∧ h.amount * s.store.active.holdWarning / 100 ≤ new.totalDue

/-- R37, R39, R105: what the settlement of the partial window of the RUNNING fare `t` of slot `i` makes of the state, and
the record `u` it leaves there: that of the settled window, with the warning of its hold given where R105 gives it. -/
def SettlesWindow (i : Fin 4) (t u : Trip) (s : State) : Prop :=
  ∀ w, w = settleWindow (s.store.active.tariff t.currentTariff) s.runningCount t →
    ((∀ h, t.hold = some h → ¬ WarnsHold s t w h) →
      u = w ∧ s.settleSlot s.runningCount i = s.putSlot i (some u))
    ∧ ∀ p h, t.payment = some p → p.hold = some h → WarnsHold s t w h →
      u = { w with payment := some { p with hold := some { h with warned := true } } }
        ∧ s.settleSlot s.runningCount i = ((s.putSlot i (some u)).post h.station
            (.topUp u.number u.totalDue h.reference h.amount)).raise .hold

/-! ### Calendar -/

/-- R61, R62: the stamp is a valid one and the weekday is that of its date. -/
def CalendarIsSound (s : State) : Prop := s.cal.time.valid = true ∧ s.cal.weekday = weekdayOf s.cal.time

/-! ### Intercom -/

/-- R122: a station is CONNECTED when, and only when, the driver path is LINKED to it. -/
def ConnectedIsLinked (s : State) : Prop := ∀ x, s.ic.isConnected x = true ↔ s.ic.path = .linked x

/-- R23: what unbinding the stations of a set makes of the intercom `c`: each of them IDLE with privacy off, its call over
and its tracker and fare chime kept; the other station's state kept; and the path FREE when it was LINKED to one of them. -/
def LeavesUnbound (set : StationSet) (c d : Intercom) : Prop :=
  (∀ x, set.has x = true → (d.line x).state = .idle ∧ (d.line x).privacy = false ∧ (d.line x).callTimer = 0
      ∧ (d.line x).deferred = false ∧ (d.line x).tracker = (c.line x).tracker
      ∧ (d.line x).fareChime = (c.line x).fareChime)
    ∧ (∀ x, set.has x = false → (d.line x).state = (c.line x).state ∧ (d.line x).privacy = (c.line x).privacy
      ∧ (d.line x).callTimer = (c.line x).callTimer ∧ (d.line x).tracker = (c.line x).tracker
      ∧ (d.line x).fareChime = (c.line x).fareChime)
    ∧ (∀ x, c.path = .linked x → set.has x = true → d.path = .free ∧ d.connectionTimer = 0)
    ∧ ((∀ x, c.path = .linked x → set.has x = false) →
      d.path = c.path ∧ d.connectionTimer = c.connectionTimer ∧ d.talkTimer = c.talkTimer)

/-- R127: what the freeing of the driver path makes of the call chimes of `c`, with none sounding: each deferred chime of
a CALLING station sounds, L before R, and is deferred no longer. -/
def DeferredChimesSound (c d : Intercom) : Prop :=
  (∀ x, (d.line x).deferred = ((c.line x).deferred && !c.isCalling x))
    ∧ (c.tone = none →
      (c.isCalling .left = true → (c.line .left).deferred = true → d.tone = some
        { station := .left, left := 20,
          queued := if c.isCalling .right = true ∧ (c.line .right).deferred = true then some .right else none })
      ∧ ((c.isCalling .left = false ∨ (c.line .left).deferred = false) →
        c.isCalling .right = true → (c.line .right).deferred = true →
        d.tone = some { station := .right, left := 20, queued := none })
      ∧ ((∀ x, c.isCalling x = false ∨ (c.line x).deferred = false) → d.tone = none))

/-- R127: what the path's leaving FREE makes of the call chimes of `c`: the sounding one is cut off, and one queued for a
station `x` that is CALLING becomes deferred. -/
def ToneIsCut (c d : Intercom) (x : Station) : Prop :=
  d.tone = none
    ∧ (d.line x).deferred
        = ((c.line x).deferred || (c.tone.any (fun t => t.queued == some x) && c.isCalling x))

/-! ### Sign -/

/-- R140, R141: the sign state is the one its inputs give. -/
def SignFollows (s : State) : Prop := s.sign.shown = s.deriveSign

/-- The part is ACTIVE, and the sign shows what its inputs give. -/
def Awake (s : State) : Prop := s.supply.power = .active ∧ SignFollows s

/-- R179: the part is ACTIVE and a command frame in progress awaits its command. -/
def Serving (s : State) : Prop := Awake s ∧ s.dash.frame = .receiving

/-- R179: the state with an answer in the frame in progress, which the frame's end leaves without further effect. -/
def State.reply (args : Nat) (result : ResultCode) (response : List Byte) (s : State) : State :=
  { s with dash := { s.dash with frame := .answered args result response .nothing, counted := args + 1 } }

/-! ### Shift and totalizers -/

/-- R164: card, cash and unpaid fares together are flag fall, step and extras totals together. -/
def Shift.balanced (sh : Shift) : Prop :=
  sh.cardFares + sh.cashFares + sh.unpaidFares = sh.flagFallTotal + sh.stepTotal + sh.extrasTotal

/-- R164: both shift records balance. -/
def MoneyBalances (s : State) : Prop := (∀ sh, s.shift = some sh → sh.balanced) ∧ (∀ sh, s.prev = some sh → sh.balanced)

/-- The ten totalizers in the order of their block. -/
def Totalizers.list (t : Totalizers) : List Nat :=
  [t.totalMetres, t.hiredMetres, t.hirings, t.tripsCompleted, t.moneyCharged, t.tariffCommits, t.serviceOpenings,
   t.supplyInterruptions, t.coldStarts, t.shiftCounter]

/-- R166: every totalizer of a set is a 32-bit count. -/
def Totalizers.inRange (t : Totalizers) : Prop := ∀ n ∈ t.list, n ≤ 4294967295

/-- R166: no totalizer of the second set is below its value in the first. -/
def Totalizers.atMost (a b : Totalizers) : Prop := List.Forall₂ (· ≤ ·) a.list b.list

/-- R90, R166: the live totalizers, both mirror copies and a write under way hold 32-bit counts. -/
def TotalsInRange (s : State) : Prop :=
  s.tot.inRange ∧ s.store.mirror.first.totals.inRange ∧ s.store.mirror.second.totals.inRange
    ∧ ∀ w, s.store.write = some w → w.totals.inRange

/-! ### Links -/

/-- R189: both notice slots are empty outside ACTIVE. -/
def NoticesOnlyActive (s : State) : Prop := s.supply.power ≠ .active → s.link.notices = ⟨none, none⟩

/-- R178: no byte is counted with no frame in progress, nor in a command frame that awaits its command. -/
def CountStartsAtZero (s : State) : Prop := (s.dash.frame = .idle ∨ s.dash.frame = .receiving) → s.dash.counted = 0

/-- R179, R185: no frame is in progress while DRST is low or the part is not ACTIVE. -/
def FramesOnlyActive (s : State) : Prop :=
  (s.dash.drstLow = true ∨ s.supply.power ≠ .active) → s.dash.frame = .idle

end Sys2Proof.Machine
end

