-- ==== Sys2Proof/WellFormed.lean ====
section
/-! DEFINITION. The commands that are well formed: an unknown command code is not one of the table (R179), and a discarded
partition write has bytes that make no message (R186). Every other command is well formed. -/

namespace Sys2Proof

/-- The command is one the links can bring about. -/
def Instr.wellFormed (i : Instr) : Bool :=
  match i with
  | .badCommand code => !(Machine.commandCodes.contains code)
  | .partitionWriteDiscarded bytes => !bytes.isEmpty && !Machine.isMessage bytes
  | _ => true

end Sys2Proof
end

