-- ==== Sys2Proof/Certificates/Slice0/Obligations.lean ====
section
/-! DEFINITION. What is claimed of the model, statement by statement: the queue and the links' bytes, the invariants every
step keeps, and what each command leaves of the state. Each docstring names the rule of the manual it formalises. -/

open Sys2Proof Sys2Proof.Machine

/-! ### The queue and the bytes of the links -/

/-- The command at the front of the queue is taken with the rest of the queue left waiting; with no command waiting the
chimes' 50 ms period passes (the model's choice, log entry 11). -/
def Obligations.FrontCommandIsTaken : Prop :=
  (∀ (c : Instr) (rest : List Instr) (s : State), step { s with pending := c :: rest } = exec c { s with pending := rest })
  ∧ ∀ s : State, s.pending = [] → step s = .next s.chimePeriod

/-- Every command answers a next state and leaves the waiting commands as they are. -/
def Obligations.CommandsLeaveTheQueue : Prop :=
  ∀ (c : Instr) (s : State), ∃ t, exec c s = .next t ∧ t.pending = s.pending

/-- R179, R190: the bytes of a dashboard command are decoded to it, bytes after them are ignored, and no shorter run of
them is a command. -/
def Obligations.FramesDecodeToTheirCommand : Prop :=
  ∀ (i : Instr) (bytes : List Byte), i.wellFormed = true → encodeFrame i = some bytes →
    (∀ rest, decodeFrame (bytes ++ rest) = some i) ∧ (∀ p, p <+: bytes → p ≠ bytes → decodeFrame p = none)

/-- R186, R190: a partition write is decoded to a message, a selector write or a discarded write exactly when its bytes
are those that command is written in. -/
def Obligations.WritesDecodeToTheirMessage : Prop :=
  ∀ (bytes : List Byte) (i : Instr),
    decodeWrite bytes = some i ↔ (i.wellFormed = true ∧ encodeWrite i = some bytes)

/-- R190: the lengths of the blocks and of a notice, whatever their contents. -/
def Obligations.BlocksHaveTheirLengths : Prop :=
  (∀ t, (tripBlock t).length = 181) ∧ (∀ t, (displayBlock t).length = 20) ∧ (∀ s : State, s.statusBlock.length = 30)
    ∧ (∀ sh, (shiftBlock sh).length = 122) ∧ (∀ t, (totalizerBlock t).length = 40)
    ∧ (∀ x n, (noticeBytes x n).length = 16) ∧ (∀ c, (clockBytes c).length = 11) ∧ ∀ s : State, s.identity.length = 10

/-! ### What every step keeps -/

/-- R2, R4, R21: a step keeps every total due the sum of its three parts, keeps the trip numbers of the occupied slots
distinct, and, with those numbers distinct, keeps each station bound to at most one active fare. -/
def Obligations.FareTableStaysSound : Prop :=
  (∀ s t : State, DueIsSum s → step s = .next t → DueIsSum t)
  ∧ (∀ s t : State, TripNumbersDiffer s → step s = .next t → TripNumbersDiffer t)
  ∧ (∀ s t : State, TripNumbersDiffer s → BoundOnce s → step s = .next t → BoundOnce t)

/-- R25, R29, R92, R113, R156, R173: a step keeps every fare window at or below the global window, which stays at or below
90, and at 0 unless the fare is RUNNING; keeps slots occupied only under a shift that is not CLOSING and active only
under an OPEN one; leaves no fare active in STANDBY or RUNNING in HOLDOVER; and keeps every slot FREE during a commit
write. -/
def Obligations.FaresKeepTheirConditions : Prop :=
  (∀ s t : State, WindowsAgree s → step s = .next t → WindowsAgree t)
  ∧ ((∀ s t : State, FaresUnderShift s → step s = .next t → FaresUnderShift t)
    ∧ (∀ s t : State, FaresFitPower s → step s = .next t → FaresFitPower t)
    ∧ (∀ s t : State, FreeDuringCommit s → step s = .next t → FreeDuringCommit t))

/-- R61, R62: a step keeps the calendar's stamp valid and its weekday that of the date. That the weekday follows the
date through a wrap of the range is the model's reading (log entry 29). -/
def Obligations.CalendarStaysSound : Prop :=
  ∀ s t : State, CalendarIsSound s → step s = .next t → CalendarIsSound t

/-- R122: a step keeps a station CONNECTED when, and only when, the driver path is LINKED to it. -/
def Obligations.ConnectedStaysLinked : Prop :=
  ∀ s t : State, ConnectedIsLinked s → step s = .next t → ConnectedIsLinked t

/-- R140, R141: after every step the roof sign shows the state its inputs give; and a sign that does so shows each of its
six states under exactly the conditions of R140, the first of them that holds. -/
def Obligations.SignStaysDerived : Prop :=
  (∀ s t : State, SignFollows s → step s = .next t → SignFollows t)
  ∧ ∀ (s : State) (awake onDuty hired shareable : Prop), SignFollows s →
    (awake ↔ s.supply.power = .active ∧ s.sign.latch = false) →
    (onDuty ↔ (∃ sh, s.shift = some sh ∧ sh.state = .opened)
      ∧ (s.sign.duty = true ∨ ∃ i t, s.slot i = some t ∧ t.state.isActive = true)) →
    (hired ↔ ∃ i t, s.slot i = some t ∧ t.state.isActive = true) →
    (shareable ↔ s.sign.shareAccept = true ∧ s.sign.duty = true
      ∧ (∀ i t, s.slot i = some t → t.state.isActive = true → t.share = true) ∧ ∃ i, s.slot i = none) →
    (s.sign.shown = .blank ↔ s.supply.power ≠ .active)
    ∧ (s.sign.shown = .alert ↔ s.supply.power = .active ∧ s.sign.latch = true)
    ∧ (s.sign.shown = .offDuty ↔ awake ∧ ¬onDuty)
    ∧ (s.sign.shown = .free ↔ awake ∧ onDuty ∧ ¬hired)
    ∧ (s.sign.shown = .share ↔ awake ∧ onDuty ∧ hired ∧ shareable)
    ∧ (s.sign.shown = .hired ↔ awake ∧ onDuty ∧ hired ∧ ¬shareable)

/-- R113, R164: where every total due is the sum of its parts, a step keeps both shift records balanced. -/
def Obligations.ShiftMoneyStaysBalanced : Prop :=
  ∀ s t : State, DueIsSum s → MoneyBalances s → step s = .next t → MoneyBalances t

/-- R90, R166: a step keeps the totalizers, live, mirrored and carried by a write, 32-bit counts; and no command but a
cold start lowers a live totalizer. -/
def Obligations.TotalizersNeverDecrease : Prop :=
  (∀ s t : State, TotalsInRange s → step s = .next t → TotalsInRange t)
  ∧ (∀ (c : Instr) (s t : State), c ≠ .coldStart → s.tot.inRange → exec c s = .next t → s.tot.atMost t.tot)

/-- R173, R175, R185, R189: a step keeps both notice slots empty outside ACTIVE, and leaves no frame in progress outside
ACTIVE or while DRST is low; so that no byte is counted with no frame in progress, nor in one that awaits its command
(R178). R96: no store write is in progress in HOLDOVER. -/
def Obligations.NothingIsUnderWayAsleep : Prop :=
  (∀ s t : State, FaresFitPower s → NoticesOnlyActive s → step s = .next t → NoticesOnlyActive t)
  ∧ (∀ s t : State, FramesOnlyActive s → step s = .next t → FramesOnlyActive t)
  ∧ (∀ s t : State, FramesOnlyActive s → CountStartsAtZero s → step s = .next t → CountStartsAtZero t)
  ∧ (∀ s t : State, StoreIdleUnpowered s → step s = .next t → StoreIdleUnpowered t)

/-- The state after reset meets every one of these (R177). That reset is the first cold start of an unwritten store is
the model's reading (log entry 3). -/
def Obligations.ResetMeetsTheInvariants : Prop :=
  DueIsSum State.reset ∧ TripNumbersDiffer State.reset ∧ BoundOnce State.reset ∧ WindowsAgree State.reset
    ∧ FaresUnderShift State.reset ∧ FaresFitPower State.reset ∧ FreeDuringCommit State.reset
    ∧ CalendarIsSound State.reset ∧ ConnectedIsLinked State.reset ∧ SignFollows State.reset
    ∧ MoneyBalances State.reset ∧ TotalsInRange State.reset ∧ NoticesOnlyActive State.reset
    ∧ FramesOnlyActive State.reset ∧ CountStartsAtZero State.reset ∧ StoreIdleUnpowered State.reset

/-! ### How commands are taken -/

/-- R179: a refused command changes nothing but its own frame, which holds the result and response bytes of 0; COMMIT
refused with BAD_IMAGE alone answers a selector. Outside a command frame of an ACTIVE part no command is taken: with no
frame in progress nothing happens, and in a frame its bytes are only counted (log entry 6), but for the one byte
0xA5 as the first of a watch frame, which ends watch mode (R184). -/
def Obligations.RefusedCommandChangesNothing : Prop :=
  (∀ (i : Instr) (s t : State) (args : Nat) (code : ResultCode) (response : List Byte) (e : FrameEnd),
      (encodeFrame i).isSome = true → Serving s → exec i s = .next t →
      t.dash.frame = .answered args code response e → code ≠ .ok →
      t = s.reply args code response ∧ e = .nothing
        ∧ ((i = .commit ∧ code = .badImage) ∨ response = List.replicate response.length 0))
  ∧ (∀ (i : Instr) (bytes : List Byte) (s : State), i.wellFormed = true → encodeFrame i = some bytes →
      (s.supply.power ≠ .active ∨ s.dash.frame ≠ .receiving) →
      (s.dash.frame = .idle → exec i s = .next s)
      ∧ (s.dash.frame ≠ .idle → (bytes ≠ [0xA5] ∨ s.dash.counted ≠ 0 ∨ ∀ snapshot, s.dash.frame ≠ .watching snapshot) →
        exec i s = .next { s with dash := { s.dash with counted := s.dash.counted + bytes.length } })
      ∧ (∀ snapshot, bytes = [0xA5] → s.dash.counted = 0 → s.dash.frame = .watching snapshot →
        exec i s = .next { s with dash := { s.dash with frame := .watchEnded snapshot, watch := none, counted := 1 } }))

/-- R17, R78, R86, R162, R166, R183: each of the reads answers with the block or the item as it stands, and changes
nothing else; during a commit write the active image is read from the read copy. -/
def Obligations.ReadsAnswerAndChangeNothing : Prop :=
  (∀ s : State, Serving s →
      (∀ slot i t, slotArg slot = some i → s.slot i = some t →
        exec (.readTrip slot) s = .next (s.reply 1 .ok (tripBlock t)))
      ∧ exec .readClock s = .next (s.reply 0 .ok (clockBytes s.cal))
      ∧ (∀ sh, s.shift = some sh → exec (.readShift 0) s = .next (s.reply 1 .ok (shiftBlock sh)))
      ∧ (∀ sh, s.prev = some sh → exec (.readShift 1) s = .next (s.reply 1 .ok (shiftBlock sh)))
      ∧ exec .readTotalizers s = .next (s.reply 0 .ok (totalizerBlock s.tot))
      ∧ exec .readStatus s = .next (s.reply 0 .ok s.statusBlock)
      ∧ exec .identify s = .next (s.reply 0 .ok (identityBytes s.store.version Config.serialNumber.val)))
  ∧ (∀ (s : State) (selector : Half) (k : Item), Serving s → itemOf selector.toNat = some k →
      (s.store.stagingLoaded = true →
        exec (.readItem 1 selector) s = .next (s.reply 3 .ok (le4 (s.store.staging.item k))))
      ∧ (s.store.state ≠ .commitWrite → s.store.valid = true →
        exec (.readItem 0 selector) s = .next (s.reply 3 .ok (le4 (s.store.active.item k))))
      ∧ (∀ copy, s.store.state = .commitWrite → s.store.readCopy = some copy → copy.valid = true →
        exec (.readItem 0 selector) s = .next (s.reply 3 .ok (le4 (copy.image.item k)))))

/-! ### The fare table -/

/-- R6: the checks of START FARE, each given where all before it pass; the last three with a tariff found. That the tariff
byte is not looked at under CALENDAR is the model's reading (log entry 5), and so is NO_SHIFT before CLOCK_UNSET where
both hold, by R6 and not by R27 (log entry 35). -/
def Obligations.StartFareChecksInOrder : Prop :=
  (∀ (set share selection tariff : Byte) (s : State), Serving s →
      ((setArg set = none ∨ switchArg share = none ∨ selectionArg selection tariff = none) →
        exec (.startFare set share selection tariff) s = .next (s.reply 4 .badArg (zeros 7)))
      ∧ ∀ g p sel, setArg set = some g → switchArg share = some p → selectionArg selection tariff = some sel →
        ((∀ sh, s.shift = some sh → sh.state ≠ .opened) →
          exec (.startFare set share selection tariff) s = .next (s.reply 4 .noShift (zeros 7)))
        ∧ ∀ sh, s.shift = some sh → sh.state = .opened →
          (s.cal.clockSet = false →
            exec (.startFare set share selection tariff) s = .next (s.reply 4 .clockUnset (zeros 7)))
          ∧ (s.cal.clockSet = true → s.store.state ≠ .idle →
            exec (.startFare set share selection tariff) s = .next (s.reply 4 .busy (zeros 7)))
          ∧ (s.cal.clockSet = true → s.store.state = .idle → s.store.valid = false →
            exec (.startFare set share selection tariff) s = .next (s.reply 4 .noTariff (zeros 7)))
          ∧ (s.cal.clockSet = true → s.store.state = .idle → s.store.valid = true →
            ∀ n, sel = .manual n →
              ((s.store.active.tariff n).defined ≠ 1 ∨ (s.store.active.tariff n).driverSelectable ≠ 1) →
              exec (.startFare set share selection tariff) s = .next (s.reply 4 .badArg (zeros 7))))
  ∧ (∀ (set share selection tariff : Byte) (g : StationSet) (p : Bool) (sel : Selection) (sh : Shift) (n : Nat) (s : State),
      Serving s → setArg set = some g → switchArg share = some p → selectionArg selection tariff = some sel →
      s.shift = some sh → sh.state = .opened → s.cal.clockSet = true → s.store.state = .idle → s.store.valid = true →
      manualRefused s.store.active sel = false → s.firstTariff sel = some n →
      ((∀ i, s.slot i ≠ none) →
        exec (.startFare set share selection tariff) s = .next (s.reply 4 .noSlot (zeros 7)))
      ∧ ((∃ i, s.slot i = none) → (∃ x, g.has x = true ∧ s.isBound x = true) →
        exec (.startFare set share selection tariff) s = .next (s.reply 4 .stationBusy (zeros 7)))
      ∧ ((∃ i, s.slot i = none) → (∀ x, g.has x = true → s.isBound x = false) →
        ((∃ i t, s.slot i = some t ∧ t.state.isActive = true ∧ t.share = false)
          ∨ (p = false ∧ ∃ i t, s.slot i = some t ∧ t.state.isActive = true)) →
        exec (.startFare set share selection tariff) s = .next (s.reply 4 .privacy (zeros 7))))

/-- R7, R8, R46: an accepted START FARE fills the lowest FREE slot with a RUNNING fare under the named tariff or the
calendar tariff, counts the hiring and the shift's trip, and has the sign derived again. R4: the number taken is held by
no occupied slot, and every number passed over on the way from the next-trip counter is held. That the tariff byte is
not looked at under CALENDAR is the model's reading (log entry 5). -/
def Obligations.StartFareCreatesTheFare : Prop :=
  (∀ (set share selection tariff : Byte) (g : StationSet) (p : Bool) (sel : Selection) (sh : Shift) (n : Nat) (i : Fin 4)
      (s : State),
      Serving s → setArg set = some g → switchArg share = some p → selectionArg selection tariff = some sel →
      s.shift = some sh → sh.state = .opened → s.cal.clockSet = true → s.store.state = .idle → s.store.valid = true →
      manualRefused s.store.active sel = false → s.firstTariff sel = some n →
      s.slot i = none → (∀ j, j < i → s.slot j ≠ none) → (∀ x, g.has x = true → s.isBound x = false) →
      (∀ j t, s.slot j = some t → t.state.isActive = true → t.share = true ∧ p = true) →
      ∃ t : Trip,
        t = { state := .running, number := s.takenNumber sh, stations := g, share := p, selection := sel,
              start := s.cal.time, stop := none,
              segments := [{ tariff := n, start := s.cal.time, metres := 0, seconds := 0, steps := 0 }],
              segmentsFull := false, saturated := false, distanceFault := false, powerPaused := false,
              progress := 0, remainder := 0, window := 0, freeSteps := (s.store.active.tariff n).includedSteps,
              flagFall := (s.store.active.tariff n).flagFall, stepTotal := 0, extras := [], extrasTotal := 0,
              totalDue := (s.store.active.tariff n).flagFall, hiredMetres := 0, hiredSeconds := 0, grace := none,
              payment := none }
        ∧ exec (.startFare set share selection tariff) s = .next (State.followSign
            { s with
              slots := s.slots.set i (some t)
              shift := some { sh with tripsStarted := satAdd sh.tripsStarted 1, nextTrip := nextNumber t.number }
              tot := { s.tot with hirings := satAdd s.tot.hirings 1 }
              dash := { s.dash with
                frame := .answered 4 .ok (byte i.val :: (le2 t.number ++ le4 t.totalDue)) .nothing, counted := 5 } }))
  ∧ (∀ (s : State) (sh : Shift),
      (∀ i t, s.slot i = some t → t.number ≠ s.takenNumber sh)
      ∧ ∃ k, s.takenNumber sh = nextNumber^[k] sh.nextTrip
          ∧ ∀ m, m < k → ∃ i t, s.slot i = some t ∧ t.number = nextNumber^[m] sh.nextTrip)

/-- R9, R10, R39: PAUSE FARE settles the RUNNING fare's partial window, with the warning of its hold where the settlement
gives one (R37, R105), then pauses it; RESUME FARE moves a PAUSED fare to RUNNING and clears its power-paused flag; the
sign stays as it was. -/
def Obligations.PauseAndResumeFare : Prop :=
  (∀ (slot : Byte) (i : Fin 4) (t : Trip) (s : State), Serving s → slotArg slot = some i → s.slot i = some t →
      t.state = .running →
      ∃ u, (s.settleSlot s.runningCount i).slot i = some u ∧ u.state = .running ∧ u.window = 0
        ∧ SettlesWindow i t u s
        ∧ exec (.pauseFare slot) s = .next
            (((s.settleSlot s.runningCount i).putSlot i (some { u with state := .paused })).reply 1 .ok
              (le2 u.number ++ le4 u.totalDue)))
  ∧ (∀ (slot : Byte) (i : Fin 4) (t : Trip) (s : State), Serving s → slotArg slot = some i → s.slot i = some t →
      t.state = .paused →
      exec (.resumeFare slot) s = .next
        (State.reply 1 .ok (le2 t.number ++ le4 t.totalDue)
          { s with slots := s.slots.set i (some { t with state := .running, powerPaused := false }) }))

/-- R11: STOP FARE settles a RUNNING fare's partial window (R39), with the warning of its hold where the settlement gives
one (R37, R105), finds a PAUSED fare's settled, stamps the stop, starts the reopen grace, posts the DUE notices and asks
for the stop chimes. -/
def Obligations.StopFareStopsAndAnnounces : Prop :=
  ∀ (slot : Byte) (i : Fin 4) (t : Trip) (s : State), Serving s → slotArg slot = some i → s.slot i = some t →
    (t.state = .running ∨ t.state = .paused) →
    ∃ u v, (s.settleSlot s.runningCount i).slot i = some u
      ∧ (t.state = .running → SettlesWindow i t u s)
      ∧ (t.state = .paused → u = t ∧ s.settleSlot s.runningCount i = s)
      ∧ v = { u with state := .stopped, stop := some s.cal.time, grace := some { count := 0, attempted := false } }
      ∧ exec (.stopFare slot) s = .next
          ((((((s.settleSlot s.runningCount i).putSlot i (some v)).postAll v.stations (.due v.number v.totalDue)).onIc
            (·.chimeAll .stop v.stations))).reply 1 .ok (le2 v.number ++ le4 v.totalDue))

/-- R13: REOPEN FARE is refused PAYING after an attempted payment and TOO_LATE from a grace count of 20; otherwise the
fare runs again without its stop stamp and its grace, under a new segment when the calendar tariff has moved. -/
def Obligations.ReopenFareWithinItsGrace : Prop :=
  ∀ (slot : Byte) (i : Fin 4) (t u : Trip) (g : Grace) (s : State), Serving s → slotArg slot = some i →
    s.slot i = some t → t.state = .stopped → t.grace = some g → u = { t with state := .running, stop := none, grace := none } →
    (g.attempted = true → exec (.reopenFare slot) s = .next (s.reply 1 .paying (zeros 6)))
    ∧ (g.attempted = false → 20 ≤ g.count → exec (.reopenFare slot) s = .next (s.reply 1 .tooLate (zeros 6)))
    ∧ (g.attempted = false → g.count < 20 →
        (∀ c, s.cal.tariff = some c → t.selection = .calendar → c = t.currentTariff) →
        exec (.reopenFare slot) s = .next
          (State.reply 1 .ok (le2 t.number ++ le4 t.totalDue) { s with slots := s.slots.set i (some u) }))
    ∧ (∀ c, g.attempted = false → g.count < 20 → s.cal.tariff = some c → t.selection = .calendar → c ≠ t.currentTariff →
        exec (.reopenFare slot) s = .next
          (State.reply 1 .ok (le2 t.number ++ le4 t.totalDue)
            { s with slots := s.slots.set i (some (startSegment s.store.active c s.cal.time u)) }))

/-- R15, R16: an accepted ADD EXTRA raises the kind's count, the extras total and the total due, then has the hold warning
checked; an accepted CANCEL EXTRA lowers them by one count; a STOPPED fare's new DUE is posted. R3: a kind of the list has
its count raised in place and a new kind stands at the end; a cancelled kind's count falls by 1 in place, an entry that
reaches 0 leaves the list, and the other entries keep their order. -/
def Obligations.ExtrasMoveTheDue : Prop :=
  (∀ (slot kind count : Byte) (i : Fin 4) (t u : Trip) (amount : Nat) (s : State),
      Serving s → slotArg slot = some i → s.slot i = some t →
      amount = (s.store.active.extraKind kind.toNat).amount → 1 ≤ kind.toNat → kind.toNat ≤ 8 →
      1 ≤ count.toNat → count.toNat ≤ 9 → amount ≠ 0 →
      (t.state = .running ∨ t.state = .paused ∨ t.state = .stopped) →
      extraCount kind.toNat t.extras + count.toNat ≤ (s.store.active.extraKind kind.toNat).maximum →
      t.totalDue + count.toNat * amount ≤ 9999999 →
      u = { t with
            extras := addExtra kind.toNat count.toNat t.extras
            extrasTotal := t.extrasTotal + count.toNat * amount
            totalDue := t.flagFall + t.stepTotal + (t.extrasTotal + count.toNat * amount) } →
      extraCount kind.toNat u.extras = extraCount kind.toNat t.extras + count.toNat
      ∧ exec (.addExtra slot kind count) s = .next
          ((if t.state = .stopped then
              ((s.putSlot i (some u)).holdWarning i).postAll u.stations (.due u.number u.totalDue)
            else (s.putSlot i (some u)).holdWarning i).reply 3 .ok
            (byte (extraCount kind.toNat t.extras + count.toNat) :: le4 u.totalDue)))
  ∧ (∀ (slot kind : Byte) (i : Fin 4) (t u : Trip) (s : State),
      Serving s → slotArg slot = some i → s.slot i = some t → 1 ≤ kind.toNat → kind.toNat ≤ 8 →
      (t.state = .running ∨ t.state = .paused ∨ t.state = .stopped) →
      (∃ e ∈ t.extras, e.kind = kind.toNat) →
      u = { t with
            extras := cancelExtra kind.toNat t.extras
            extrasTotal := t.extrasTotal - (s.store.active.extraKind kind.toNat).amount
            totalDue := t.flagFall + t.stepTotal + (t.extrasTotal - (s.store.active.extraKind kind.toNat).amount) } →
      exec (.cancelExtra slot kind) s = .next
        ((if t.state = .stopped then (s.putSlot i (some u)).postAll u.stations (.due u.number u.totalDue)
          else s.putSlot i (some u)).reply 2 .ok (byte (extraCount kind.toNat u.extras) :: le4 u.totalDue)))
  ∧ (∀ (kind n : Nat) (before after : List Extra) (e : Extra), e.kind = kind → (∀ d ∈ before, d.kind ≠ kind) →
      extraCount kind (before ++ e :: after) = e.count
      ∧ addExtra kind n (before ++ e :: after) = before ++ { e with count := e.count + n } :: after
      ∧ (1 < e.count → cancelExtra kind (before ++ e :: after) = before ++ { e with count := e.count - 1 } :: after)
      ∧ (e.count ≤ 1 → cancelExtra kind (before ++ e :: after) = before ++ after)
      ∧ ((∀ d ∈ after, d.kind ≠ kind) →
        extraCount kind (cancelExtra kind (before ++ e :: after)) = extraCount kind (before ++ e :: after) - 1))
  ∧ ∀ (kind n : Nat) (extras : List Extra), (∀ d ∈ extras, d.kind ≠ kind) →
      addExtra kind n extras = extras ++ [{ kind := kind, count := n }]

/-- R18: RELEASE TRIP frees a SETTLED slot whose number matches and whose hold is not awaiting its release, and counts
the trip and its total due. -/
def Obligations.ReleaseTripFreesTheSlot : Prop :=
  ∀ (slot : Byte) (trip : Half) (i : Fin 4) (t : Trip) (s : State),
    Serving s → slotArg slot = some i → s.slot i = some t →
    (t.state ≠ .settled → exec (.releaseTrip slot trip) s = .next (s.reply 3 .badState []))
    ∧ (t.state = .settled → t.number ≠ trip.toNat → exec (.releaseTrip slot trip) s = .next (s.reply 3 .mismatch []))
    ∧ (∀ h, t.state = .settled → t.number = trip.toNat → t.hold = some h → h.state = .releasePending →
        exec (.releaseTrip slot trip) s = .next (s.reply 3 .holdOpen []))
    ∧ (t.state = .settled → t.number = trip.toNat → (∀ h, t.hold = some h → h.state ≠ .releasePending) →
        exec (.releaseTrip slot trip) s = .next (State.followSign
          { s with
            slots := s.slots.set i none
            tot := { s.tot with
              tripsCompleted := satAdd s.tot.tripsCompleted 1
              moneyCharged := satAdd s.tot.moneyCharged t.totalDue }
            dash := { s.dash with frame := .answered 3 .ok [] .nothing, counted := 4 } }))

/-! ### The fare engine -/

/-- R31 to R36 and R39: what a fare second does to the record of a RUNNING fare, and what the settlement of a partial
window does, by distance alone: remainder, progress, free steps, counts, the current segment's alone, and window; R34, R35,
R37: its step amount total, total due and saturated flag are those that the steps earned leave at the tariff's step
amount. R30: the share percentage by the number of RUNNING fares. -/
def Obligations.FareSecondWorksTheRecord : Prop :=
  (∀ (tar : Tariff) (k v n : Nat) (t : Trip),
      v = (if tar.mode = 0 then max (t.window * tar.stepTime) tar.stepDistance
            else t.window * tar.stepTime + tar.stepDistance) →
      n = (t.progress + (v * sharePercent tar k + t.remainder) / 100) / (tar.stepDistance * tar.stepTime) →
      (creditSecond tar k t).remainder = (v * sharePercent tar k + t.remainder) % 100
      ∧ (creditSecond tar k t).progress
          = (t.progress + (v * sharePercent tar k + t.remainder) / 100) % (tar.stepDistance * tar.stepTime)
      ∧ (creditSecond tar k t).freeSteps = t.freeSteps - n
      ∧ (creditSecond tar k t).stepTotal = (takeSteps tar.stepAmount n t).stepTotal
      ∧ (creditSecond tar k t).totalDue = (takeSteps tar.stepAmount n t).totalDue
      ∧ (creditSecond tar k t).saturated = (takeSteps tar.stepAmount n t).saturated
      ∧ (creditSecond tar k t).hiredMetres = satAdd t.hiredMetres t.window
      ∧ (creditSecond tar k t).hiredSeconds = satAdd t.hiredSeconds 1
      ∧ (creditSecond tar k t).window = 0
      ∧ (creditSecond tar k t).segments.dropLast = t.segments.dropLast
      ∧ (∀ g, t.segments.getLast? = some g → (creditSecond tar k t).segments.getLast? = some
          { g with metres := satAdd g.metres t.window, seconds := satAdd g.seconds 1, steps := satAdd g.steps n }))
  ∧ (∀ (tar : Tariff) (k n : Nat) (t : Trip),
      n = (t.progress + (t.window * tar.stepTime * sharePercent tar k + t.remainder) / 100)
            / (tar.stepDistance * tar.stepTime) →
      (settleWindow tar k t).remainder = (t.window * tar.stepTime * sharePercent tar k + t.remainder) % 100
      ∧ (settleWindow tar k t).progress
          = (t.progress + (t.window * tar.stepTime * sharePercent tar k + t.remainder) / 100)
              % (tar.stepDistance * tar.stepTime)
      ∧ (settleWindow tar k t).freeSteps = t.freeSteps - n
      ∧ (settleWindow tar k t).stepTotal = (takeSteps tar.stepAmount n t).stepTotal
      ∧ (settleWindow tar k t).totalDue = (takeSteps tar.stepAmount n t).totalDue
      ∧ (settleWindow tar k t).saturated = (takeSteps tar.stepAmount n t).saturated
      ∧ (settleWindow tar k t).hiredMetres = satAdd t.hiredMetres t.window
      ∧ (settleWindow tar k t).window = 0
      ∧ (t.hiredSeconds ≤ 4294967295 → (settleWindow tar k t).hiredSeconds = t.hiredSeconds)
      ∧ (settleWindow tar k t).segments.dropLast = t.segments.dropLast
      ∧ (∀ g, t.segments.getLast? = some g → g.seconds ≤ 4294967295 → (settleWindow tar k t).segments.getLast? = some
          { g with metres := satAdd g.metres t.window, steps := satAdd g.steps n }))
  ∧ ∀ tar : Tariff, sharePercent tar 1 = 100 ∧ sharePercent tar 2 = tar.share2 ∧ sharePercent tar 3 = tar.share3
      ∧ sharePercent tar 4 = tar.share4

/-- R34, R35: the steps of a second add the step amount each, past the free ones, up to the cap of 9,999,999, which they
never pass; the saturated flag is set when the cap cuts a step, and stays set. R43, R44, R45: a segment is started under
the new tariff with the progress rescaled and the remainder 0; a fare that holds four only has its flag set. -/
def Obligations.StepsAndSegmentsAreBounded : Prop :=
  (∀ (amount n : Nat) (t : Trip), t.totalDue = t.flagFall + t.stepTotal + t.extrasTotal → t.totalDue ≤ 9999999 →
      (takeSteps amount n t).totalDue = min (t.totalDue + (n - t.freeSteps) * amount) 9999999
      ∧ ((takeSteps amount n t).saturated = true
          ↔ (t.saturated = true ∨ 9999999 < t.totalDue + (n - t.freeSteps) * amount)))
  ∧ (∀ (img : Image) (n : Nat) (now : Stamp) (t : Trip),
      (t.segments.length < 4 → startSegment img n now t =
        { t with
          progress := t.progress * ((img.tariff n).stepDistance * (img.tariff n).stepTime)
            / ((img.tariff t.currentTariff).stepDistance * (img.tariff t.currentTariff).stepTime)
          remainder := 0
          segments := t.segments ++ [{ tariff := n, start := now, metres := 0, seconds := 0, steps := 0 }] })
      ∧ (4 ≤ t.segments.length → startSegment img n now t = { t with segmentsFull := true }))

/-- R30: a fare second credits every RUNNING fare under one count k, leaves the records of the others, and gives the
shift one hired second; with k = 0 it changes nothing. R37: a fare with a hold whose step amount total changed has the
hold warning checked. -/
def Obligations.FareSecondCreditsTheRunning : Prop :=
  ∀ s : State,
    (s.runningCount = 0 → s.fareSecond = s)
    ∧ (∀ i t, s.slot i = some t → t.state = .running → t.hold = none →
        s.fareSecond.slot i = some (creditSecond (s.store.active.tariff t.currentTariff) s.runningCount t))
    ∧ (∀ i t p h u, s.slot i = some t → t.state = .running → t.payment = some p → p.hold = some h →
        u = creditSecond (s.store.active.tariff t.currentTariff) s.runningCount t →
        s.fareSecond.slot i = some
          (if u.stepTotal ≠ t.stepTotal ∧ h.state = .held ∧ h.warned = false
              ∧ h.amount * s.store.active.holdWarning / 100 ≤ u.totalDue then
            { u with payment := some { p with hold := some { h with warned := true } } }
          else u))
    ∧ (∀ i t, s.slot i = some t → t.state ≠ .running → s.fareSecond.slot i = some t)
    ∧ (∀ sh, s.runningCount ≠ 0 → s.shift = some sh →
        s.fareSecond.shift = some { sh with hiredSeconds := satAdd sh.hiredSeconds 1 })

/-- R105: the hold warning check gives its warning once: at or above the threshold the flag is set, the HOLD event is
set and a TOP_UP is posted; in every other case it does nothing. -/
def Obligations.HoldIsWarnedOnce : Prop :=
  ∀ (s : State) (i : Fin 4) (t : Trip) (p : Payment) (h : Hold),
    s.slot i = some t → t.payment = some p → p.hold = some h →
    (h.state = .held → h.warned = false → h.amount * s.store.active.holdWarning / 100 ≤ t.totalDue →
      s.holdWarning i = ((s.putSlot i (some { t with payment := some { p with hold := some { h with warned := true } } })).post
        h.station (.topUp t.number t.totalDue h.reference h.amount)).raise .hold)
    ∧ ((h.state ≠ .held ∨ h.warned = true ∨ t.totalDue < h.amount * s.store.active.holdWarning / 100) →
      s.holdWarning i = s)

/-! ### Settlement -/

/-- R116, R117, R118: RECORD CASH and DECLARE UNPAID settle a STOPPED fare: its sub-record, the shift's money and count, the
release of a HELD hold, the unbinding of its stations, and for cash the paid chime at each of them. R23: what the
unbinding leaves of them; that a fare over both stations unbinds both before the path is freed is the model's reading
(log entry 13). -/
def Obligations.DriverSettlesTheFare : Prop :=
  (∀ (slot : Byte) (tip : Word) (i : Fin 4) (t u : Trip) (s : State),
      Serving s → slotArg slot = some i → s.slot i = some t → t.state = .stopped → tip.toNat ≤ 9999999 →
      u = { t with
            state := .settled
            payment := some { t.paymentOrNew with
              method := .cash, captured := t.totalDue + tip.toNat, tip := tip.toNat,
              hold := t.hold.map (fun h => if h.state = .held then { h with state := .releasePending } else h) } } →
      exec (.recordCash slot tip) s = .next (State.followSign
        { s with
          slots := s.slots.set i (some u)
          shift := s.shift.map (fun sh =>
            { sh.creditMoney .cash t tip.toNat with cashSettlements := satAdd sh.cashSettlements 1 })
          ic := (s.ic.unbind t.stations).chimeAll .paid t.stations
          link := (match t.hold with
            | some h => if h.state = .held then
                s.link.post h.station (.releaseHold t.number h.reference h.amount) else s.link
            | none => s.link)
          dash := { s.dash with
            frame := .answered 5 .ok (le2 t.number ++ le4 t.totalDue ++ le4 (t.totalDue + tip.toNat)) .nothing
            counted := 6 } }))
  ∧ (∀ (slot : Byte) (i : Fin 4) (t u : Trip) (s : State),
      Serving s → slotArg slot = some i → s.slot i = some t → t.state = .stopped →
      u = { t with
            state := .settled
            payment := some { t.paymentOrNew with
              method := .unpaid, captured := 0, tip := 0,
              hold := t.hold.map (fun h => if h.state = .held then { h with state := .releasePending } else h) } } →
      exec (.declareUnpaid slot) s = .next (State.followSign
        { s with
          slots := s.slots.set i (some u)
          shift := s.shift.map (fun sh =>
            { sh.creditMoney .unpaid t 0 with unpaidSettlements := satAdd sh.unpaidSettlements 1 })
          ic := s.ic.unbind t.stations
          link := (match t.hold with
            | some h => if h.state = .held then
                s.link.post h.station (.releaseHold t.number h.reference h.amount) else s.link
            | none => s.link)
          dash := { s.dash with frame := .answered 1 .ok (le2 t.number ++ le4 t.totalDue) .nothing, counted := 2 } }))
  ∧ ∀ (g : StationSet) (c : Intercom), LeavesUnbound g c (c.unbind g)

/-- R113: the four money totals of a settlement are raised together, or not at all when one would pass the limit; the
tips rise in both cases. A void lowers the same four together, or not at all when one holds less than its amount, and
the tips by the tip, to no less than 0, in both cases. That a saturated tips total is lowered too is the model's reading
(log entry 36). -/
def Obligations.SettlementMoneyRisesTogether : Prop :=
  (∀ (m : Method) (t : Trip) (tip : Nat) (sh : Shift), m ≠ .unsettled →
    (sh.creditMoney m t tip).tips = min (sh.tips + tip) 4294967295
    ∧ ((sh.flagFallTotal + t.flagFall ≤ 4294967295 ∧ sh.stepTotal + t.stepTotal ≤ 4294967295
          ∧ sh.extrasTotal + t.extrasTotal ≤ 4294967295 ∧ sh.methodTotal m + t.totalDue ≤ 4294967295) →
        (sh.creditMoney m t tip).flagFallTotal = sh.flagFallTotal + t.flagFall
        ∧ (sh.creditMoney m t tip).stepTotal = sh.stepTotal + t.stepTotal
        ∧ (sh.creditMoney m t tip).extrasTotal = sh.extrasTotal + t.extrasTotal
        ∧ (sh.creditMoney m t tip).methodTotal m = sh.methodTotal m + t.totalDue
        ∧ ∀ m', m' ≠ m → (sh.creditMoney m t tip).methodTotal m' = sh.methodTotal m')
    ∧ ((4294967295 < sh.flagFallTotal + t.flagFall ∨ 4294967295 < sh.stepTotal + t.stepTotal
          ∨ 4294967295 < sh.extrasTotal + t.extrasTotal ∨ 4294967295 < sh.methodTotal m + t.totalDue) →
        sh.creditMoney m t tip = { sh with tips := min (sh.tips + tip) 4294967295 }))
  ∧ ∀ (t : Trip) (tip : Nat) (sh : Shift),
    ((t.flagFall ≤ sh.flagFallTotal ∧ t.stepTotal ≤ sh.stepTotal ∧ t.extrasTotal ≤ sh.extrasTotal
        ∧ t.totalDue ≤ sh.cardFares) →
      sh.debitMoney t tip =
        { sh with
          flagFallTotal := sh.flagFallTotal - t.flagFall
          stepTotal := sh.stepTotal - t.stepTotal
          extrasTotal := sh.extrasTotal - t.extrasTotal
          cardFares := sh.cardFares - t.totalDue
          tips := sh.tips - tip })
    ∧ ((sh.flagFallTotal < t.flagFall ∨ sh.stepTotal < t.stepTotal ∨ sh.extrasTotal < t.extrasTotal
        ∨ sh.cardFares < t.totalDue) → sh.debitMoney t tip = { sh with tips := sh.tips - tip })

/-- R104, R106: an accepted HOLD PLACED gives a RUNNING or PAUSED fare its one hold, sets HOLD, posts the ACK, and has the
warning checked at once. HOLD RELEASED makes the pending hold of its station and reference RELEASED; its ACK takes the
place of that hold's own unread RELEASE_HOLD, and is otherwise posted by rank; with no such hold it is refused NO_HOLD. -/
def Obligations.HoldsArePlacedAndReleased : Prop :=
  (∀ (x : Station) (trip : Half) (reference amount : Word) (i : Fin 4) (t u : Trip) (s : State),
      Awake s → s.findTrip trip.toNat = some i → s.slot i = some t → t.stations.has x = true →
      reference.toNat ≤ 99999999 → t.hold = none → (t.state = .running ∨ t.state = .paused) →
      100 ≤ amount.toNat → amount.toNat ≤ 999999 →
      u = { t with
            payment := some { t.paymentOrNew with
              hold := some (Hold.mk reference.toNat amount.toNat x .held false) } } →
      exec (.holdPlaced x trip reference amount) s = .next
        ((((s.putSlot i (some u)).raise .hold).post x (.ack 0x11 none t.number t.totalDue)).holdWarning i))
  ∧ (∀ (x : Station) (reference : Word) (s : State), Awake s → TripNumbersDiffer s →
      (∀ i t, s.slot i = some t → t.number ≠ 0) → reference.toNat ≤ 99999999 →
      ((∀ i t h, s.slot i = some t → t.hold = some h →
          ¬(h.state = .releasePending ∧ h.station = x ∧ h.reference = reference.toNat)) →
        exec (.holdReleased x reference) s = .next (s.post x (.ack 0x12 (some .noHold) 0 0)))
      ∧ ∀ i t p h u, s.slot i = some t → t.payment = some p → p.hold = some h →
          h.state = .releasePending → h.station = x → h.reference = reference.toNat →
          (∀ j v g, s.slot j = some v → v.hold = some g → g.state = .releasePending → g.station = x →
            g.reference = reference.toNat → t.number ≤ v.number) →
          u = { t with payment := some { p with hold := some { h with state := .released } } } →
          exec (.holdReleased x reference) s = .next
            (if s.link.notices.get x = some (.releaseHold t.number h.reference h.amount) then
              ((s.putSlot i (some u)).raise .hold).onLink (·.put x (.ack 0x12 none t.number t.totalDue))
            else ((s.putSlot i (some u)).raise .hold).post x (.ack 0x12 none t.number t.totalDue)))

/-- R107: PAY BEGIN makes a STOPPED fare SETTLING, unless its declines have reached the limit; a fare in another state
is refused WRONG_STATE. R114: an accepted PAY VOID returns a card fare to STOPPED under an OPEN shift, takes its money
back out of the shift, and posts the ACK and the DUE notices; that a saturated tips total is lowered too is the model's
reading (log entry 36). -/
def Obligations.PaymentBeginsAndIsVoided : Prop :=
  (∀ (x : Station) (trip : Half) (i : Fin 4) (t : Trip) (s : State),
      Awake s → s.findTrip trip.toNat = some i → s.slot i = some t → t.stations.has x = true →
      (t.state ≠ .stopped →
        exec (.payBegin x trip) s = .next (s.post x (.ack 0x21 (some .wrongState) t.number t.totalDue)))
      ∧ (t.state = .stopped → t.paymentOrNew.declines = s.store.active.declineLimit →
        exec (.payBegin x trip) s = .next (s.post x (.ack 0x21 (some .cardBlocked) t.number t.totalDue)))
      ∧ (t.state = .stopped → t.paymentOrNew.declines ≠ s.store.active.declineLimit →
        exec (.payBegin x trip) s = .next
          (((s.putSlot i (some { t with
              state := .settling
              grace := t.grace.map (fun g => { g with attempted := true })
              payment := some { t.paymentOrNew with attempt := .inProgress, timer := s.store.active.payTimeout } })).raise
            .fare).post x (.ack 0x21 none t.number t.totalDue))))
  ∧ (∀ (x : Station) (trip : Half) (reference : Word) (i : Fin 4) (t u : Trip) (p : Payment) (sh : Shift) (s : State),
      Awake s → s.findTrip trip.toNat = some i → s.slot i = some t → t.stations.has x = true →
      reference.toNat ≤ 99999999 → t.state = .settled → t.payment = some p → p.method = .card →
      s.shift = some sh → sh.state = .opened → p.cardRef = some reference.toNat →
      (∀ y, t.stations.has y = true → s.isBound y = false) →
      (∀ j v, s.slot j = some v → v.state.isActive = true → v.share = true ∧ t.share = true) →
      u = { t with
            state := .stopped
            payment := some { p with method := .unsettled, attempt := .idle, cardRef := none, captured := 0, tip := 0 } } →
      exec (.payVoid x trip reference) s = .next (State.followSign
        (((((s.putSlot i (some u)).putShift (some { sh.debitMoney t p.tip with voids := satAdd sh.voids 1 })).raise
          .fare).post x (.ack 0x23 none t.number t.totalDue)).postAll t.stations (.due t.number t.totalDue))))

/-- R109 to R112: an approved PAY RESULT settles the fare by card only with a captured amount of the total due plus a tip
within the cap; a declined or cancelled one returns it to STOPPED, with the ACK before the DUE of each station. R23: what
the unbinding of an approved one leaves of its stations; that a fare over both stations unbinds both before the path is
freed is the model's reading (log entry 13). -/
def Obligations.PayResultSettlesOrReturns : Prop :=
  (∀ (x : Station) (trip : Half) (captured tip reference : Word) (i : Fin 4) (t u : Trip) (s : State),
      Awake s → s.findTrip trip.toNat = some i → s.slot i = some t → t.stations.has x = true →
      reference.toNat ≤ 99999999 → t.state = .settling →
      u = { t with
            state := .settled
            payment := some { t.paymentOrNew with
              method := .card, attempt := .approved, cardRef := some reference.toNat, captured := captured.toNat,
              tip := tip.toNat, timer := 0,
              hold := t.hold.map (fun h => if h.state = .held then { h with state := .consumed } else h) } } →
      (captured.toNat ≠ t.totalDue + tip.toNat →
        exec (.payResult x trip 1 captured tip reference) s
          = .next (s.post x (.ack 0x22 (some .badAmount) t.number t.totalDue)))
      ∧ (captured.toNat = t.totalDue + tip.toNat →
        t.totalDue * (s.store.active.tariff t.currentTariff).tipCap / 100 < tip.toNat →
        exec (.payResult x trip 1 captured tip reference) s
          = .next (s.post x (.ack 0x22 (some .tipOverCap) t.number t.totalDue)))
      ∧ (captured.toNat = t.totalDue + tip.toNat →
        tip.toNat ≤ t.totalDue * (s.store.active.tariff t.currentTariff).tipCap / 100 →
        exec (.payResult x trip 1 captured tip reference) s = .next (State.followSign
          { s with
            slots := s.slots.set i (some u)
            shift := s.shift.map (fun sh =>
              { sh.creditMoney .card t tip.toNat with cardSettlements := satAdd sh.cardSettlements 1 })
            ic := (s.ic.unbind t.stations).chimeAll .paid t.stations
            dash := s.dash.raise .fare
            link := s.link.post x (.ack 0x22 none t.number t.totalDue) })
        ∧ LeavesUnbound t.stations s.ic (s.ic.unbind t.stations)))
  ∧ (∀ (x : Station) (trip : Half) (captured tip reference : Word) (i : Fin 4) (t : Trip) (p : Payment) (s : State),
      Awake s → s.findTrip trip.toNat = some i → s.slot i = some t → t.stations.has x = true →
      reference.toNat ≤ 99999999 → t.state = .settling → t.payment = some p →
      exec (.payResult x trip 2 captured tip reference) s = .next
        (((((((s.putSlot i (some { t with
            state := .stopped
            payment := some { p with attempt := .declined, timer := 0, declines := p.declines + 1 } })).credit
          (fun sh => { sh with declines := satAdd sh.declines 1 })).raise .paymentDeclined).raise .fare).onIc
          (·.chimeAll .decline t.stations)).post x (.ack 0x22 none t.number t.totalDue)).postAll t.stations
          (.due t.number t.totalDue))
      ∧ exec (.payResult x trip 3 captured tip reference) s = .next
        ((((s.putSlot i (some { t with
            state := .stopped
            payment := some { p with attempt := .cancelled, timer := 0 } })).raise .fare).post x
          (.ack 0x22 none t.number t.totalDue)).postAll t.stations (.due t.number t.totalDue)))

/-- R115: FARE QUERY posts a FARE notice with the bound fare's number, state and due, or with trip 0, state FREE and due
0 where the station is bound to no fare; it changes nothing else. The notice is dropped where the slot holds one of
higher rank, and takes the place of an unread FARE. -/
def Obligations.FareQueryAnswersTheBoundFare : Prop :=
  ∀ (x : Station) (s : State), Awake s →
    (∀ i t, s.slot i = some t → t.state.isActive = true → t.stations.has x = true → BoundOnce s →
      exec (.fareQuery x) s = .next { s with link := s.link.post x (.fare t.number (some t.state) t.totalDue) })
    ∧ ((∀ i t, s.slot i = some t → t.stations.has x = true → t.state.isActive = false) →
      exec (.fareQuery x) s = .next { s with link := s.link.post x (.fare 0 none 0) })
    ∧ ∀ (trip due : Nat) (st : SlotCode),
      (∀ old, s.link.notices.get x = some old → (∀ a b c, old ≠ .fare a b c) →
        s.link.post x (.fare trip st due) = s.link)
      ∧ ((s.link.notices.get x = none ∨ ∃ a b c, s.link.notices.get x = some (.fare a b c)) →
        (s.link.post x (.fare trip st due)).notices = s.link.notices.set x (some (.fare trip st due)))

/-! ### The calendar -/

/-- R66 to R69: an accepted SET CLOCK writes the stamp, sets the flag and evaluates; an accepted ADJUST CLOCK moves the
time by the clamped request within the allowance and evaluates; a time moved out of the range clears the flag (R63).
R62: what one second makes of the stamp at each of its boundaries, and of the weekday; a move passes an end of the range
exactly when it leaves the last stamp forward or the first one backward. The weekday after a wrap is the model's reading
(log entry 29). -/
def Obligations.ClockIsSetAndAdjusted : Prop :=
  (∀ (year : Half) (month day hour minute second : Byte) (now : Stamp) (s u : State), Serving s →
    now = ⟨year.toNat, month.toNat, day.toNat, hour.toNat, minute.toNat, second.toNat⟩ → now.valid = true →
    s.store.switchOpen = true → (∀ i, s.slot i = none) →
    u = State.evaluate { s with cal := { s.cal with time := now, weekday := weekdayOf now, clockSet := true } } →
    exec (.setClock year month day hour minute second) s = .next (u.reply 7 .ok [byte (u.cal.tariff.getD 0)]))
  ∧ (∀ (seconds : Byte) (applied : Int) (sh : Shift) (s u : State), Serving s → s.shift = some sh → sh.state ≠ .closing →
      s.cal.clockSet = true → s.runningCount = 0 →
      applied = (if 0 ≤ seconds.toInt then min (min seconds.toInt 120) sh.allowance
        else max (max seconds.toInt (-120)) (-sh.allowance)) →
      u = State.evaluate { s with
            cal :=
              if (moveBy applied s.cal.time).2 then
                { time := (moveBy applied s.cal.time).1, weekday := weekdayOf (moveBy applied s.cal.time).1,
                  clockSet := false, tariff := none, deciding := none }
              else { s.cal with
                time := (moveBy applied s.cal.time).1, weekday := weekdayOf (moveBy applied s.cal.time).1 }
            shift := some { sh with
              allowance := sh.allowance - applied.natAbs, adjustmentSum := sh.adjustmentSum + applied } } →
      exec (.adjustClock seconds) s = .next
        (u.reply 1 .ok [BitVec.ofInt 8 applied, byte (sh.allowance - applied.natAbs)]))
  ∧ (∀ (n : Nat) (t : Stamp), (moveBy n t).1 = nextSecond^[n] t ∧ (moveBy (-n) t).1 = previousSecond^[n] t
      ∧ ((moveBy n t).2 = true ↔ ∃ m, m < n ∧ nextSecond^[m] t = ⟨2099, 12, 31, 23, 59, 59⟩)
      ∧ ((moveBy (-n) t).2 = true ↔ ∃ m, m < n ∧ previousSecond^[m] t = ⟨2000, 1, 1, 0, 0, 0⟩))
  ∧ (∀ t : Stamp, t.valid = true → previousSecond (nextSecond t) = t ∧ nextSecond (previousSecond t) = t)
  ∧ (∀ (y mo d h m length : Nat),
      length = (if mo = 2 then (if y % 4 = 0 then 29 else 28)
        else if mo = 4 ∨ mo = 6 ∨ mo = 9 ∨ mo = 11 then 30 else 31) →
      (∀ s, s < 59 → nextSecond ⟨y, mo, d, h, m, s⟩ = ⟨y, mo, d, h, m, s + 1⟩)
      ∧ (m < 59 → nextSecond ⟨y, mo, d, h, m, 59⟩ = ⟨y, mo, d, h, m + 1, 0⟩)
      ∧ (h < 23 → nextSecond ⟨y, mo, d, h, 59, 59⟩ = ⟨y, mo, d, h + 1, 0, 0⟩)
      ∧ (d < length → nextSecond ⟨y, mo, d, 23, 59, 59⟩ = ⟨y, mo, d + 1, 0, 0, 0⟩)
      ∧ (mo < 12 → nextSecond ⟨y, mo, length, 23, 59, 59⟩ = ⟨y, mo + 1, 1, 0, 0, 0⟩)
      ∧ (y < 2099 → nextSecond ⟨y, 12, 31, 23, 59, 59⟩ = ⟨y + 1, 1, 1, 0, 0, 0⟩)
      ∧ nextSecond ⟨2099, 12, 31, 23, 59, 59⟩ = ⟨2000, 1, 1, 0, 0, 0⟩)
  ∧ weekdayOf ⟨2000, 1, 1, 0, 0, 0⟩ = .saturday
  ∧ ∀ t : Stamp, t.valid = true → t ≠ ⟨2099, 12, 31, 23, 59, 59⟩ →
      (t.hour = 23 ∧ t.minute = 59 ∧ t.second = 59 →
        (weekdayOf (nextSecond t)).bit = ((weekdayOf t).bit + 1) % 7)
      ∧ (¬(t.hour = 23 ∧ t.minute = 59 ∧ t.second = 59) → weekdayOf (nextSecond t) = weekdayOf t)

/-- R75 to R77: an evaluation takes the lowest window that contains the minute, or the default tariff; a new number is a
tariff switch, which reaches every RUNNING or PAUSED fare that follows the calendar; the same number only updates the
deciding window. With the clock unset there is no evaluation. R73, R74: what a window contains. -/
def Obligations.EvaluationNamesTheTariff : Prop :=
  (∀ (img : Image) (t : Stamp),
    (∃ k : Fin 12, (img.windows[k]).contains t = true ∧ (∀ j : Fin 12, j < k → (img.windows[j]).contains t = false)
      ∧ decideTariff img t = ((img.windows[k]).tariff, .window (k.val + 1)))
    ∨ ((∀ j : Fin 12, (img.windows[j]).contains t = false) ∧ decideTariff img t = (img.defaultTariff, .fallback)))
  ∧ (∀ (w : Window) (t : Stamp) (m : Nat), m = 60 * t.hour + t.minute →
      (w.contains t = true ↔
        (w.weekdays = 0 ∨ w.weekdays.testBit (weekdayOf t).bit = true) ∧ (w.day = 0 ∨ w.day = t.day)
        ∧ (w.month = 0 ∨ w.month = t.month)
        ∧ ((w.start < w.stop ∧ w.start ≤ m ∧ m < w.stop) ∨ (w.stop < w.start ∧ (w.start ≤ m ∨ m < w.stop))
          ∨ w.stop = w.start)))
  ∧ (∀ s : State, s.cal.clockSet = false → s.evaluate = s)
  ∧ (∀ s : State, s.cal.clockSet = true → s.store.state ≠ .commitWrite → s.store.valid = true →
      s.scheduleImage = some s.store.active)
  ∧ ∀ (s : State) (img : Image) (n : Nat) (d : Deciding), s.scheduleImage = some img →
      decideTariff img s.cal.time = (n, d) →
      (s.cal.tariff = some n → s.evaluate = { s with cal := { s.cal with deciding := some d } })
      ∧ (s.cal.tariff ≠ some n →
        s.evaluate.cal = { s.cal with tariff := some n, deciding := some d }
        ∧ s.evaluate.dash = s.dash.raise .tariffSwitch
        ∧ (∀ i t, s.slot i = some t → s.evaluate.slot i = some
            (if (t.state = .running ∨ t.state = .paused) ∧ t.selection = .calendar ∧ t.currentTariff ≠ n then
              startSegment s.store.active n s.cal.time t
            else t))
        ∧ ∀ i, s.slot i = none → s.evaluate.slot i = none)

/-! ### The tariff store -/

/-- R84, R85, R87: LOAD STAGE fills staging, STAGE WRITE changes one item of it and no other, and ENABLE COMMIT sets the
latch under an open service switch. -/
def Obligations.StagingTakesItsItems : Prop :=
  ∀ s : State, Serving s →
    (s.store.state = .idle → exec .loadStage s = .next
      (State.reply 0 .ok (le2 (if s.store.valid then s.store.version else 0))
        { s with store := { s.store with
            staging := if s.store.valid then s.store.active else blankImage, stagingLoaded := true } }))
    ∧ (∀ (selector : Half) (value : Word) (k : Item), s.store.state = .idle → s.store.stagingLoaded = true →
        itemOf selector.toNat = some k →
        k.selector = selector.toNat
        ∧ (∀ j, (s.store.staging.withItem value.toNat k).item j
            = if j = k then value.toNat else s.store.staging.item j)
        ∧ exec (.stageWrite selector value) s = .next
            (State.reply 6 .ok (le2 selector.toNat ++ le4 value.toNat)
              { s with store := { s.store with staging := s.store.staging.withItem value.toNat k } }))
    ∧ (s.store.switchOpen = true →
        exec .enableCommit s = .next (State.reply 0 .ok [] { s with store := { s.store with latch := true } }))
    ∧ (s.store.switchOpen = false → exec .enableCommit s = .next (s.reply 0 .serviceClosed []))

/-- R88, R90, R91, R93, R94: a COMMIT whose checks pass begins the commit write; one whose staging image fails answers
the selector of the first failing item. A write that verifies makes the staged image active, counts the commit and
evaluates; one that fails leaves the image INVALID and the calendar tariff absent. A verified mirror copy is current.
What a failed write leaves behind the INVALID flag and the sequence number 0 is the model's choice (log entry 16). -/
def Obligations.CommitBeginsAndCompletes : Prop :=
  (∀ s : State, Serving s → s.store.state = .idle → s.store.switchOpen = true → s.store.latch = true →
      s.store.stagingLoaded = true → (∀ i, s.slot i = none) →
      (∀ k, s.store.staging.firstBad = some k → exec .commit s = .next (s.reply 0 .badImage (le2 k.selector)))
      ∧ (s.store.staging.firstBad = none → exec .commit s = .next
          (State.reply 0 .ok (le2 (if s.store.version = 65535 then 0 else s.store.version + 1))
            { s with store := { s.store with
                state := .commitWrite
                readCopy := some { image := s.store.active, valid := s.store.valid }
                marker := some .commit
                valid := false
                mirror := s.store.mirror.set s.store.mirror.target
                  { s.store.mirror.get s.store.mirror.target with sequence := 0 }
                write := some
                  { image := some s.store.staging
                    totals := { s.tot with tariffCommits := satAdd s.tot.tariffCommits 1 }
                    copy := s.store.mirror.target
                    sequence := nextSequence (s.store.mirror.get s.store.mirror.target.other).sequence } } })))
  ∧ ((∀ (s : State) (w : StoreWrite) (img : Image), s.store.state = .commitWrite → s.store.write = some w →
      w.image = some img →
      exec .commitWriteSuccess s = .next (State.evaluate
        { s with
          store := { s.store with
            active := img, valid := true, version := if s.store.version = 65535 then 0 else s.store.version + 1
            latch := false, marker := none, readCopy := none, write := none, state := .idle
            mirror := s.store.mirror.set w.copy { totals := w.totals, sequence := w.sequence } }
          tot := { s.tot with tariffCommits := satAdd s.tot.tariffCommits 1 }
          dash := s.dash.raise .commitDone
          dist := { s.dist with
            settings := some { pulsesPerKm := img.pulsesPerKm,
                               edge := if img.pulseEdge = 0 then .rising else .falling, filter := img.filterCount }
            accumulator := if s.dist.settings.map (·.pulsesPerKm) = some img.pulsesPerKm then s.dist.accumulator else 0
            lowRun := 0, highRun := 0 } })
      ∧ exec .commitWriteFailure s = .next
        { s with
          store := { s.store with
            valid := false, latch := false, marker := none, readCopy := none, write := none, state := .idle }
          dash := s.dash.raise .commitFailed
          cal := { s.cal with tariff := none, deciding := none } })
    ∧ ∀ (m : Mirror) (c : CopyName) (totals : Totalizers),
        (m.set c { totals := totals, sequence := nextSequence (m.get c.other).sequence }).current = some c
        ∧ (m.set c { totals := totals, sequence := nextSequence (m.get c.other).sequence }).value = totals)

/-- R95, R160: a mirror write that verifies makes its copy the mirror's, and finishes a CLOSING shift, whose record
becomes the previous one with its close stamp; one that fails begins again with the live totalizers. What a failed
write leaves behind the sequence number 0 is the model's choice (log entry 16). -/
def Obligations.MirrorWriteCompletes : Prop :=
  ∀ (s : State) (w : StoreWrite) (done : Store), s.store.state = .mirrorWrite → s.store.write = some w →
    done = { s.store with
      marker := none, readCopy := none, write := none, state := .idle
      mirror := s.store.mirror.set w.copy { totals := w.totals, sequence := w.sequence } } →
    ((∀ sh, s.shift = some sh → sh.state ≠ .closing) → exec .mirrorWriteSuccess s = .next { s with store := done })
    ∧ (∀ sh, s.shift = some sh → sh.state = .closing →
        exec .mirrorWriteSuccess s = .next (State.followSign
          { s with
            store := done, prev := some { sh with closeStamp := some s.cal.time }, shift := none
            dash := s.dash.raise .shiftClosed }))
    ∧ exec .mirrorWriteFailure s = .next
        { s with store := { s.store with
            marker := some .mirror
            mirror := s.store.mirror.set s.store.mirror.target
              { s.store.mirror.get s.store.mirror.target with sequence := 0 }
            write := some
              { image := none, totals := s.tot, copy := s.store.mirror.target
                sequence := nextSequence (s.store.mirror.get s.store.mirror.target.other).sequence } } }

/-! ### The shift unit -/

/-- R154, R155: the checks of SHIFT OPEN in their order, and the record an accepted one creates under the number that the
raised shift counter gives. -/
def Obligations.ShiftOpensUnderItsNumber : Prop :=
  ∀ (driver : Word) (n : Nat) (s : State), Serving s →
    n = (min (s.tot.shiftCounter + 1) 4294967295 - 1) % 65535 + 1 →
    ((driver.toNat = 0 ∨ 999999 < driver.toNat) →
      exec (.shiftOpen driver) s = .next (s.reply 4 .badArg (zeros 9)))
    ∧ (1 ≤ driver.toNat → driver.toNat ≤ 999999 →
      (s.shift ≠ none → exec (.shiftOpen driver) s = .next (s.reply 4 .badState (zeros 9)))
      ∧ (s.shift = none → s.prev ≠ none → exec (.shiftOpen driver) s = .next (s.reply 4 .uncollected (zeros 9)))
      ∧ (s.shift = none → s.prev = none → s.cal.clockSet = false →
          exec (.shiftOpen driver) s = .next (s.reply 4 .clockUnset (zeros 9)))
      ∧ (s.shift = none → s.prev = none → s.cal.clockSet = true →
          exec (.shiftOpen driver) s = .next (State.followSign
            { s with
              tot := { s.tot with shiftCounter := satAdd s.tot.shiftCounter 1 }
              shift := some (newShift n driver.toNat s.cal.time)
              dash := { s.dash with
                frame := .answered 4 .ok (le2 n ++ stampBytes s.cal.time) .nothing, counted := 5 } })))

/-- R163: RELEASE SHIFT is refused BAD_STATE with no previous record and MISMATCH under another number; on acceptance
the previous record becomes absent and nothing else changes, so that SHIFT OPEN is no longer refused UNCOLLECTED. -/
def Obligations.ReleaseShiftCollects : Prop :=
  ∀ (number : Half) (s : State), Serving s →
    (s.prev = none → exec (.releaseShift number) s = .next (s.reply 2 .badState []))
    ∧ (∀ sh, s.prev = some sh → sh.number ≠ number.toNat →
        exec (.releaseShift number) s = .next (s.reply 2 .mismatch []))
    ∧ (∀ sh, s.prev = some sh → sh.number = number.toNat →
        exec (.releaseShift number) s = .next (State.reply 2 .ok [] { s with prev := none }))
    ∧ (s.prev = none → ∀ driver t, exec (.shiftOpen driver) s = .next t →
        ∀ a r e, t.dash.frame ≠ .answered a .uncollected r e)

/-- R156, R158: SHIFT BREAK and SHIFT RESUME move the shift between OPEN and BREAK; SHIFT CLOSE makes it CLOSING and
begins the mirror write with the live totalizers; R157: a rollover's break second is counted in BREAK alone. -/
def Obligations.ShiftBreaksAndCloses : Prop :=
  ∀ (sh : Shift) (s : State), s.shift = some sh →
    (Serving s →
      (sh.state = .opened → s.anyActive = false → exec .shiftBreak s = .next (State.followSign
        { s with
          shift := some { sh with state := .onBreak }
          dash := { s.dash with frame := .answered 0 .ok [2] .nothing, counted := 1 } }))
      ∧ (sh.state = .opened → s.anyActive = true → exec .shiftBreak s = .next (s.reply 0 .openTrips [0]))
      ∧ (sh.state = .onBreak → exec .shiftResume s = .next (State.followSign
        { s with
          shift := some { sh with state := .opened }
          dash := { s.dash with frame := .answered 0 .ok [1] .nothing, counted := 1 } }))
      ∧ (sh.state ≠ .closing → s.store.state = .idle → s.prev = none → (∀ i, s.slot i = none) →
        exec .shiftClose s = .next (State.followSign
          { s with
            shift := some { sh with state := .closing }
            store := s.store.beginMirror s.tot
            dash := { s.dash with frame := .answered 0 .ok (le2 sh.number) .nothing, counted := 1 } })))
    ∧ s.breakTick.shift = some
        (if sh.state = .onBreak then { sh with breakSeconds := satAdd sh.breakSeconds 1 } else sh)

/-! ### The intercom -/

/-- R129 to R131, R133: what each accepted command of the driver does to the path, the stations and the timers. R127: the
path's leaving FREE cuts the sounding call chime off and defers the queued one, its freeing sounds the deferred ones, and
an ANSWER given in a conversation leaves the other station's deferred one as it is. -/
def Obligations.DriverCommandsMoveThePath : Prop :=
  ∀ (b : Byte) (x : Station) (s : State), Serving s → stationArg b = some x →
    (s.ic.isCalling x = true → (∀ g, s.ic.path ≠ .talk g) →
      ∃ c : Intercom, exec (.answer b) s = .next (State.reply 1 .ok (intercomField c) { s with ic := c })
        ∧ c.path = .linked x ∧ c.connectionTimer = 180
        ∧ c.line x = { s.ic.line x with state := .connected, callTimer := 0, deferred := false, fareChime := none }
        ∧ (c.line x.other).privacy = (s.ic.line x.other).privacy
        ∧ (c.line x.other).state = (if s.ic.path = .linked x.other then .idle else (s.ic.line x.other).state)
        ∧ (s.ic.path = .free → ToneIsCut s.ic c x.other)
        ∧ (s.ic.path ≠ .free → (c.line x.other).deferred = (s.ic.line x.other).deferred))
    ∧ (s.isBound x = true → (s.ic.line x).privacy = false → s.ic.isConnected x = true →
      exec (.openStation b) s = .next
        (State.reply 1 .ok (intercomField s.ic) { s with ic := { s.ic with connectionTimer := 180 } }))
    ∧ (s.isBound x = true → (s.ic.line x).privacy = false → (s.ic.line x).state = .idle → s.ic.path = .free →
      ∃ c : Intercom, exec (.openStation b) s = .next (State.reply 1 .ok (intercomField c) { s with ic := c })
        ∧ c.path = .linked x ∧ c.connectionTimer = 180 ∧ ToneIsCut s.ic c x.other
        ∧ c.line x = { s.ic.line x with state := .connected, fareChime := none }
        ∧ (c.line x.other).state = (s.ic.line x.other).state)
    ∧ (s.ic.isConnected x = true →
      ∃ c : Intercom, exec (.closeStation b) s = .next (State.reply 1 .ok (intercomField c) { s with ic := c })
        ∧ c.path = .free ∧ c.connectionTimer = 0 ∧ c.line x = { s.ic.line x with state := .idle }
        ∧ (c.line x.other).state = (s.ic.line x.other).state ∧ DeferredChimesSound s.ic c)
    ∧ (∀ (e : Byte) (g : StationSet), talkSetArg e = some g → s.ic.path = .free →
      ∃ c : Intercom, exec (.talkPress e) s = .next (State.reply 1 .ok (intercomField c) { s with ic := c })
        ∧ c.path = .talk g ∧ c.talkTimer = 30
        ∧ ∀ y, ToneIsCut s.ic c y ∧ (c.line y).state = (s.ic.line y).state ∧ (c.line y).callTimer = (s.ic.line y).callTimer
          ∧ (c.line y).fareChime = if g.has y then none else (s.ic.line y).fareChime)
    ∧ (∀ g, s.ic.path = .talk g →
      ∃ c : Intercom, exec .talkRelease s = .next (State.reply 0 .ok (intercomField c) { s with ic := c })
        ∧ c.path = .free ∧ c.talkTimer = 0 ∧ DeferredChimesSound s.ic c
        ∧ ∀ y, (c.line y).state = (s.ic.line y).state ∧ (c.line y).fareChime = (s.ic.line y).fareChime)

/-- R124 to R127: in ACTIVE a short press at a bound IDLE station is a call, sounded at once, queued behind the other
station's tone, or deferred by the path; the fortieth pressed sample toggles a bound station's privacy; every other sample
moves the tracker alone: the release of a short press at a station that is unbound, CALLING or CONNECTED, the fortieth at
an unbound one, and each sample that takes no action. Outside ACTIVE no sample is taken. -/
def Obligations.ButtonSamplesCallOrToggle : Prop :=
  (∀ (x : Station) (pressed : Bool) (s : State), s.supply.power ≠ .active → exec (.buttonSample x pressed) s = .next s)
  ∧ ∀ (x : Station) (s : State), s.supply.power = .active →
    (∀ n, (s.ic.line x).tracker = .down n → s.isBound x = true → (s.ic.line x).state = .idle →
      ∃ c : Intercom, exec (.buttonSample x false) s = .next { s with ic := c, dash := s.dash.raise .call }
        ∧ (c.line x).state = .calling ∧ (c.line x).callTimer = 30 ∧ (c.line x).tracker = .up
        ∧ (c.line x).privacy = (s.ic.line x).privacy ∧ c.path = s.ic.path
        ∧ (c.line x).deferred = ((s.ic.line x).deferred || s.ic.path != .free)
        ∧ (s.ic.path = .free → s.ic.tone = none → c.tone = some { station := x, left := 20, queued := none })
        ∧ (∀ tone, s.ic.path = .free → s.ic.tone = some tone → tone.station = x.other →
          c.tone = some { tone with queued := some x })
        ∧ (s.ic.path ≠ .free → c.tone = s.ic.tone)
        ∧ c.line x.other = s.ic.line x.other)
    ∧ (∀ n, (s.ic.line x).tracker = .down n → (s.isBound x = false ∨ (s.ic.line x).state ≠ .idle) →
      exec (.buttonSample x false) s = .next { s with ic := s.ic.onLine x (fun l => { l with tracker := .up }) })
    ∧ ((s.ic.line x).tracker = .down 39 → s.isBound x = true →
      exec (.buttonSample x true) s = .next { s with
        ic := s.ic.onLine x (fun l => { l with tracker := .long, privacy := !l.privacy }) })
    ∧ ((s.ic.line x).tracker = .down 39 → s.isBound x = false →
      exec (.buttonSample x true) s = .next { s with ic := s.ic.onLine x (fun l => { l with tracker := .long }) })
    ∧ (∀ n, n < 39 → (s.ic.line x).tracker = .down n →
      exec (.buttonSample x true) s
        = .next { s with ic := s.ic.onLine x (fun l => { l with tracker := .down (n + 1) }) })
    ∧ ((s.ic.line x).tracker = .up → exec (.buttonSample x true) s
        = .next { s with ic := s.ic.onLine x (fun l => { l with tracker := .down 1 }) })
    ∧ ((s.ic.line x).tracker = .up → exec (.buttonSample x false) s = .next s)
    ∧ ((s.ic.line x).tracker = .long → exec (.buttonSample x true) s = .next s)
    ∧ ((s.ic.line x).tracker = .long → exec (.buttonSample x false) s
        = .next { s with ic := s.ic.onLine x (fun l => { l with tracker := .up }) })

/-- R108, R127, R128, R132, R134, R135: what each expiry and each chime's end does, where the timer stands at its last
second, with the deferred call chimes that a freed path sounds. R135: a fare chime requested for the stations of a set
sounds its 40 periods at each of them that is neither CONNECTED nor in the set of a TALK, and changes nothing else. One
50 ms period in ACTIVE, which a step with no command waiting passes, lowers the periods left of each chime that sounds and
changes nothing else: a chime is silent after its last one, 20 of a call chime and 40 of a fare chime from their start, and
a queued call chime then sounds its 20 if the path is FREE and its station CALLING; outside ACTIVE it changes nothing. That
each expiry and each end is a command of its own, and when it has its effect, is the model's choice (log
entries 9 and 11). -/
def Obligations.TimersExpireAndChimesEnd : Prop :=
  (∀ s : State, s.supply.power ≠ .active → s.chimePeriod = s)
  ∧ (∀ (i : Fin 4) (t : Trip) (p : Payment) (s : State), Awake s → s.slot i = some t → t.state = .settling →
    t.payment = some p → p.timer ≤ 1 →
    exec (.paymentTimerExpiry i) s = .next
      (((s.putSlot i (some { t with
          state := .stopped, payment := some { p with attempt := .timedOut, timer := 0 } })).raise
        .fare).postAll t.stations (.due t.number t.totalDue)))
  ∧ ∀ (x : Station) (s : State), s.supply.power = .active →
    (s.ic.isCalling x = true → (s.ic.line x).callTimer ≤ 1 →
      ∃ c : Intercom, exec (.callTimerExpiry x) s = .next
          { s with
            ic := c
            shift := s.shift.map (fun sh => { sh with missedCalls := satAdd sh.missedCalls 1 })
            dash := s.dash.raise .callMissed }
        ∧ c.line x = { s.ic.line x with state := .idle, callTimer := 0, deferred := false }
        ∧ c.path = s.ic.path ∧ c.line x.other = s.ic.line x.other
        ∧ c.tone = s.ic.tone.map (fun tone => if tone.queued = some x then { tone with queued := none } else tone))
    ∧ (s.ic.path = .linked x → s.ic.connectionTimer ≤ 1 →
      ∃ c : Intercom, exec .connectionExpiry s = .next { s with ic := c }
        ∧ c.path = .free ∧ c.connectionTimer = 0 ∧ (c.line x).state = .idle
        ∧ (c.line x.other).state = (s.ic.line x.other).state
        ∧ (s.ic.isConnected x = true → DeferredChimesSound s.ic c))
    ∧ (∀ g, s.ic.path = .talk g → s.ic.talkTimer ≤ 1 →
      ∃ c : Intercom, exec .talkExpiry s = .next { s with ic := c }
        ∧ c.path = .free ∧ c.talkTimer = 0 ∧ DeferredChimesSound s.ic c
        ∧ ∀ y, (c.line y).state = (s.ic.line y).state)
    ∧ (∀ tone, s.ic.tone = some tone →
      (tone.queued = none → exec .callChimeEnd s = .next { s with ic := { s.ic with tone := none } })
      ∧ (tone.queued = some x → s.ic.path = .free → s.ic.isCalling x = true →
        exec .callChimeEnd s
          = .next { s with ic := { s.ic with tone := some { station := x, left := 20, queued := none } } }))
    ∧ exec (.fareChimeEnd x) s = .next { s with ic := s.ic.onLine x (fun l => { l with fareChime := none }) }
    ∧ (∃ c : Intercom, s.chimePeriod = { s with ic := c }
      ∧ c.path = s.ic.path ∧ c.connectionTimer = s.ic.connectionTimer ∧ c.talkTimer = s.ic.talkTimer
      ∧ (∀ y, c.line y = { s.ic.line y with fareChime := (s.ic.line y).fareChime.bind (fun f =>
          if f.left ≤ 1 then none else some { f with left := f.left - 1 }) })
      ∧ (s.ic.tone = none → c.tone = none)
      ∧ ∀ tone, s.ic.tone = some tone →
        (1 < tone.left → c.tone = some { tone with left := tone.left - 1 })
        ∧ (tone.left ≤ 1 → (tone.queued = some x ∧ s.ic.path = .free ∧ s.ic.isCalling x = true) →
          c.tone = some { station := x, left := 20, queued := none })
        ∧ (tone.left ≤ 1 → (∀ y, tone.queued = some y → s.ic.path ≠ .free ∨ s.ic.isCalling y = false) → c.tone = none))
    ∧ (∀ n f, (s.ic.line x).fareChime = some f → 0 < f.left →
      (n < f.left → ((State.chimePeriod^[n] s).ic.line x).fareChime = some { f with left := f.left - n })
      ∧ (f.left ≤ n → ((State.chimePeriod^[n] s).ic.line x).fareChime = none))
    ∧ (∀ n tone, s.ic.tone = some tone → 0 < tone.left →
      (n < tone.left → (State.chimePeriod^[n] s).ic.tone = some { tone with left := tone.left - n })
      ∧ (tone.queued = none → tone.left ≤ n → (State.chimePeriod^[n] s).ic.tone = none)
      ∧ (tone.queued = some x → s.ic.path = .free → s.ic.isCalling x = true →
        (tone.left ≤ n → n < tone.left + 20 → (State.chimePeriod^[n] s).ic.tone
          = some { station := x, left := tone.left + 20 - n, queued := none })
        ∧ (tone.left + 20 ≤ n → (State.chimePeriod^[n] s).ic.tone = none)))
    ∧ ∀ (kind : ChimeKind) (g : StationSet) (y : Station),
      (s.ic.chimeAll kind g).line y =
          (if g.has y = true ∧ s.ic.isConnected y = false ∧ s.ic.inTalk y = false then
            { s.ic.line y with fareChime := some { kind := kind, left := 40 } }
          else s.ic.line y)
        ∧ (s.ic.chimeAll kind g).tone = s.ic.tone ∧ (s.ic.chimeAll kind g).path = s.ic.path

/-! ### Sign and alert -/

/-- R143, R144, R147, R148: the sign's commands, and every sample of the alert switch, in ACTIVE and STANDBY by the table
of R147 and none in HOLDOVER. The sixtieth pressed sample with the latch clear raises the alert: in ACTIVE the lamp period
ends early with its samples (R142, R145, R146) and the sign shows ALERT, all four lamps lit; in STANDBY it wakes the part
(R174) with the sign at ALERT from the wake; with the latch set only the tracker moves. The sense levels that a sample
carries are the model's choice (log entry 18). -/
def Obligations.SignAndAlertAreSet : Prop :=
  (∀ (b : Byte) (on : Bool) (s u : State), Serving s → switchArg b = some on →
    (u = State.followSign { s with sign := { s.sign with duty := on } } →
      exec (.signDuty b) s = .next (u.reply 1 .ok [u.sign.shown.code]))
    ∧ (u = State.followSign { s with sign := { s.sign with shareAccept := on } } →
      exec (.shareAccept b) s = .next (u.reply 1 .ok [u.sign.shown.code])))
  ∧ (∀ s : State, Serving s →
    (∀ b : Byte, (b = 2 ∨ b = 4 ∨ b = 8) → exec (.signSetup b) s = .next
      (State.reply 1 .ok [b]
        { s with sign := { s.sign with
            filter := b.toNat, lamps := s.sign.lamps.map (fun l => { l with outRun := 0, inRun := 0 }) } }))
    ∧ (∀ u, s.sign.tracker = .up → u = State.followSign { s with sign := { s.sign with latch := false } } →
      exec .clearAlert s = .next (u.reply 0 .ok [u.sign.shown.code]))
    ∧ (s.sign.tracker ≠ .up → exec .clearAlert s = .next (s.reply 0 .badState [0])))
  ∧ (∀ (pressed : Bool) (w : Lamps Bool) (s : State), s.supply.power = .holdover →
    exec (.alswSample pressed w) s = .next s)
  ∧ (∀ (w : Lamps Bool) (s : State), s.supply.power ≠ .holdover →
    (s.sign.tracker = .up →
      exec (.alswSample true w) s = .next { s with sign := { s.sign with tracker := .down 1 } })
    ∧ (∀ n, n < 59 → s.sign.tracker = .down n →
      exec (.alswSample true w) s = .next { s with sign := { s.sign with tracker := .down (n + 1) } })
    ∧ (s.sign.tracker = .down 59 → s.sign.latch = true →
      exec (.alswSample true w) s = .next { s with sign := { s.sign with tracker := .held } })
    ∧ (s.sign.tracker = .held → exec (.alswSample true w) s = .next s)
    ∧ exec (.alswSample false w) s = .next { s with sign := { s.sign with tracker := .up } })
  ∧ (∀ (w : Lamps Bool) (s : State) (after : Lamps Lamp), Awake s → s.sign.tracker = .down 59 → s.sign.latch = false →
    after = w.zip (fun inside l => if l.whole then l.sample s.sign.filter inside else l) s.sign.lamps →
    exec (.alswSample true w) s = .next
      { s with
        sign := { s.sign with
          tracker := .held, latch := true, shown := .alert, flashLit := true
          lamps := after.map (fun l => { l with whole := true }) }
        shift := s.shift.map (fun sh =>
          { sh with
            lampFaults := satAdd sh.lampFaults (newFaults s.sign.lamps after), alerts := satAdd sh.alerts 1 })
        dash := (if healthChanged s.sign.lamps after then s.dash.raise .lamp else s.dash).raise .alert })
  ∧ ∀ (w : Lamps Bool) (s : State), s.supply.power = .standby → SignFollows s → s.sign.tracker = .down 59 →
    s.sign.latch = false →
    ∃ t, exec (.alswSample true w) s = .next t
      ∧ t = State.wake
        { s with
          sign := { s.sign with tracker := .held, latch := true }
          shift := s.shift.map (fun sh => { sh with alerts := satAdd sh.alerts 1 })
          dash := s.dash.raise .alert }
      ∧ t.supply = { s.supply with power := .active, offTimer := 0 }
      ∧ t.sign.shown = .alert ∧ t.sign.flashLit = true ∧ t.sign.latch = true ∧ t.sign.tracker = .held
      ∧ (∀ l ∈ t.sign.lamps.list, l.outRun = 0 ∧ l.inRun = 0 ∧ l.whole = true)
      ∧ t.dash.isPending .alert = true

/-- R142, R145, R146: at the end of a period in ACTIVE each lamp lit throughout it gives its sample, of a steady sign, whose
lamps driven are lit again, and of ALERT, whose four lamps turn together from lit to dark or back; faults are
counted by the shift, and any change of health sets LAMP. The table of R145 is that of one lamp's sample. The mark of a
lamp lit throughout its period is the model's reading (log entry 19). -/
def Obligations.LampsAreJudgedWhileLit : Prop :=
  (∀ (w : Lamps Bool) (s : State) (after : Lamps Lamp), s.supply.power = .active → s.sign.shown ≠ .alert →
    after = w.zip (fun inside l => if l.whole then l.sample s.sign.filter inside else l) s.sign.lamps →
    exec (.lampPeriodEnd w) s = .next
      { s with
        sign := { s.sign with lamps := (driven s.sign.shown).zip (fun on l => { l with whole := on }) after }
        shift := s.shift.map (fun sh =>
          { sh with lampFaults := satAdd sh.lampFaults (newFaults s.sign.lamps after) })
        dash := if healthChanged s.sign.lamps after then s.dash.raise .lamp else s.dash })
  ∧ (∀ (w : Lamps Bool) (s : State) (after : Lamps Lamp), s.supply.power = .active → s.sign.shown = .alert →
    after = w.zip (fun inside l => if l.whole then l.sample s.sign.filter inside else l) s.sign.lamps →
    exec (.lampPeriodEnd w) s = .next
      { s with
        sign := { s.sign with
          flashLit := !s.sign.flashLit, lamps := after.map (fun l => { l with whole := !s.sign.flashLit }) }
        shift := s.shift.map (fun sh =>
          { sh with lampFaults := satAdd sh.lampFaults (newFaults s.sign.lamps after) })
        dash := if healthChanged s.sign.lamps after then s.dash.raise .lamp else s.dash })
  ∧ (∀ (w : Lamps Bool) (s : State), s.supply.power ≠ .active → exec (.lampPeriodEnd w) s = .next s)
  ∧ (∀ s : State,
    (s.sign.shown = .alert → s.litLamps = ⟨s.sign.flashLit, s.sign.flashLit, s.sign.flashLit, s.sign.flashLit⟩)
    ∧ (s.sign.shown ≠ .alert → s.litLamps = driven s.sign.shown))
  ∧ ∀ (n : Nat) (l : Lamp),
    (l.faulted = false → l.sample n true = { l with outRun := 0 })
    ∧ (l.faulted = false → l.outRun + 1 < n → l.sample n false = { l with outRun := l.outRun + 1 })
    ∧ (l.faulted = false → n ≤ l.outRun + 1 → l.sample n false = { l with faulted := true, outRun := 0, inRun := 0 })
    ∧ (l.faulted = true → l.sample n false = { l with inRun := 0 })
    ∧ (l.faulted = true → l.inRun + 1 < n → l.sample n true = { l with inRun := l.inRun + 1 })
    ∧ (l.faulted = true → n ≤ l.inRun + 1 → l.sample n true = { l with faulted := false, outRun := 0, inRun := 0 })

/-! ### Distance and the line filters -/

/-- R49, R50, R51: an accepted edge adds 1,000 to the accumulator; from K on it raises one metre, which is counted below
the cap in the window of the second, the totals and every RUNNING fare. A run of edges leaves the remainder by K. -/
def Obligations.EdgesBecomeMetres : Prop :=
  (∀ (e : PulseEdge) (w : Settings) (s : State), s.dist.settings = some w → w.edge = e → s.supply.power ≠ .holdover →
    s.dist.faulted = false →
    (s.dist.accumulator + 1000 < w.pulsesPerKm →
      exec (.acceptedEdge e) s = .next { s with dist := { s.dist with accumulator := s.dist.accumulator + 1000 } })
    ∧ (w.pulsesPerKm ≤ s.dist.accumulator + 1000 → s.dist.window < 90 →
      exec (.acceptedEdge e) s = .next
        { s with
          dist := { s.dist with
            accumulator := s.dist.accumulator + 1000 - w.pulsesPerKm, window := s.dist.window + 1 }
          slots := (let f := Option.map (fun t : Trip => if t.state = .running then { t with window := t.window + 1 } else t)
            ⟨f s.slots.a0, f s.slots.a1, f s.slots.a2, f s.slots.a3⟩)
          tot := { s.tot with
            totalMetres := satAdd s.tot.totalMetres 1
            hiredMetres := satAdd s.tot.hiredMetres (if s.runningCount = 0 then 0 else 1) }
          shift := s.shift.map (fun sh =>
            { sh with
              totalMetres := satAdd sh.totalMetres 1
              hiredMetres := satAdd sh.hiredMetres (if s.runningCount = 0 then 0 else 1) }) }))
  ∧ (∀ (e : PulseEdge) (s : State),
      (s.dist.settings = none ∨ s.supply.power = .holdover ∨ s.dist.faulted = true
        ∨ ∃ w, s.dist.settings = some w ∧ w.edge ≠ e) → exec (.acceptedEdge e) s = .next s)
  ∧ ∀ (k p : Nat) (s : State), 1000 ≤ k → s.dist.accumulator < k →
      ((State.edge k)^[p] s).dist.accumulator = (s.dist.accumulator + 1000 * p) % k

/-- R52: a metre raised with the global window at 90 is discarded: no count rises and no fare window, the overspeed mark
is set, and the accumulator is still lowered by K; a counted metre, that of 90 among them, sets no mark, and a second
closed without the mark is no overspeed second. -/
def Obligations.MetreAtTheCapIsDiscarded : Prop :=
  ∀ (e : PulseEdge) (w : Settings) (s : State), s.dist.settings = some w → w.edge = e → s.supply.power ≠ .holdover →
    s.dist.faulted = false → w.pulsesPerKm ≤ s.dist.accumulator + 1000 →
    (s.dist.window = 90 → exec (.acceptedEdge e) s = .next
      { s with dist := { s.dist with
          accumulator := s.dist.accumulator + 1000 - w.pulsesPerKm, overspeed := true } })
    ∧ (s.dist.window < 90 → ∃ t, exec (.acceptedEdge e) s = .next t ∧ t.dist.window = s.dist.window + 1
        ∧ t.dist.overspeed = s.dist.overspeed)
    ∧ (s.dist.overspeed = false →
      s.closeSecond = { s with dist := { s.dist with window := 0, overspeed := false } })

/-- R54, R55, R82, R83, R170, R174: below the filter count a sample against the state only raises the run and one with it
sets the run to 0, of a HEALTHY and of a FAULTED sensor, with a count of 20 while the settings are absent (R48); at it the
sensor becomes FAULTED (which marks RUNNING and PAUSED fares, counts in the shift with its first stamp, and sets SENSOR), the
service switch changes after three samples (counting an opening, clearing the latch at a closing), and the ignition after
five (which sets the timer to 0 and wakes a part in STANDBY). -/
def Obligations.LinesAreFiltered : Prop :=
  (∀ (n : Nat) (s : State), s.supply.power ≠ .holdover →
      n = (match s.dist.settings with
        | some w => w.filter
        | none => 20) →
      (s.dist.faulted = true → s.dist.highRun + 1 < n →
        exec (.dsensSample true) s = .next { s with dist := { s.dist with highRun := s.dist.highRun + 1 } })
      ∧ (s.dist.faulted = true → exec (.dsensSample false) s = .next { s with dist := { s.dist with highRun := 0 } })
      ∧ (s.dist.faulted = false → s.dist.lowRun + 1 < n →
        exec (.dsensSample false) s = .next { s with dist := { s.dist with lowRun := s.dist.lowRun + 1 } })
      ∧ (s.dist.faulted = false → exec (.dsensSample true) s = .next { s with dist := { s.dist with lowRun := 0 } })
      ∧ (s.dist.faulted = false → n ≤ s.dist.lowRun + 1 → exec (.dsensSample false) s = .next
        { s with
          dist := { s.dist with faulted := true, lowRun := 0, highRun := 0 }
          slots := (let f := Option.map (fun t : Trip =>
              if t.state = .running ∨ t.state = .paused then { t with distanceFault := true } else t)
            ⟨f s.slots.a0, f s.slots.a1, f s.slots.a2, f s.slots.a3⟩)
          shift := s.shift.map (fun sh =>
            { sh with
              sensorFaults := satAdd sh.sensorFaults 1
              firstFault := match sh.firstFault with
                | some stamp => some stamp
                | none => some s.cal.time })
          dash := s.dash.raise .sensor }))
  ∧ (∀ s : State, s.supply.power ≠ .holdover →
      (s.store.switchOpen = false → s.store.switchRun = 2 → exec (.svcSample true) s = .next
        { s with
          store := { s.store with switchOpen := true, switchRun := 0 }
          tot := { s.tot with serviceOpenings := satAdd s.tot.serviceOpenings 1 }
          dash := s.dash.raise .service })
      ∧ (s.store.switchOpen = true → s.store.switchRun = 2 → exec (.svcSample false) s = .next
        { s with store := { s.store with switchOpen := false, switchRun := 0, latch := false } })
      ∧ (∀ b, s.store.switchOpen ≠ b → s.store.switchRun < 2 → exec (.svcSample b) s = .next
        { s with store := { s.store with switchRun := s.store.switchRun + 1 } })
      ∧ exec (.svcSample s.store.switchOpen) s = .next { s with store := { s.store with switchRun := 0 } }
      ∧ (∀ b, s.supply.ignitionOn ≠ b → s.supply.ignitionRun < 4 → exec (.ignSample b) s = .next
        { s with supply := { s.supply with ignitionRun := s.supply.ignitionRun + 1 } })
      ∧ exec (.ignSample s.supply.ignitionOn) s = .next { s with supply := { s.supply with ignitionRun := 0 } }
      ∧ (s.supply.ignitionOn = true → s.supply.ignitionRun = 4 → exec (.ignSample false) s = .next
        { s with supply := { s.supply with ignitionOn := false, ignitionRun := 0, offTimer := 0 } })
      ∧ (s.supply.ignitionOn = false → s.supply.ignitionRun = 4 → exec (.ignSample true) s = .next
        (if s.supply.power = .standby then
          State.wake { s with supply := { s.supply with ignitionOn := true, ignitionRun := 0, offTimer := 0 } }
        else { s with supply := { s.supply with ignitionOn := true, ignitionRun := 0, offTimer := 0 } })))

/-- R56: the high sample that brings the high-run count to N makes the sensor HEALTHY and sets SENSOR; no shift count and
no fare flag changes, the accumulator is kept, and transitions of the working edge are accepted again. A fault after it
counts once more in the shift and sets the same event. With the settings absent N is 20 (R48, R54). -/
def Obligations.SensorRecoveryIsFiltered : Prop :=
  (∀ s : State, s.supply.power ≠ .holdover → s.dist.settings = none → s.dist.faulted = true → s.dist.highRun + 1 = 20 →
    exec (.dsensSample true) s = .next { s with
      dist := { s.dist with faulted := false, lowRun := 0, highRun := 0 }, dash := s.dash.raise .sensor })
  ∧ ∀ (n : Nat) (w : Settings) (s : State), s.supply.power ≠ .holdover → s.dist.settings = some w → n = w.filter →
    (s.dist.faulted = true → s.dist.highRun + 1 = n →
      ∃ t, exec (.dsensSample true) s = .next t
        ∧ t = { s with
            dist := { s.dist with faulted := false, lowRun := 0, highRun := 0 }, dash := s.dash.raise .sensor }
        ∧ t.dist.accumulator = s.dist.accumulator ∧ t.accepts w.edge = true ∧ t.dash.isPending .sensor = true)
    ∧ (s.dist.faulted = true → s.accepts w.edge = false)
    ∧ (s.dist.faulted = false → s.dist.lowRun + 1 = n →
      ∃ t, exec (.dsensSample false) s = .next t ∧ t.dist.faulted = true ∧ t.dash = s.dash.raise .sensor
        ∧ t.dist.accumulator = s.dist.accumulator
        ∧ ∀ sh, s.shift = some sh → ∃ sh', t.shift = some sh' ∧ sh'.sensorFaults = satAdd sh.sensorFaults 1)

/-! ### The dashboard link -/

/-- R182: READ EVENTS copies the enabled flags, which the end of its frame clears once five bytes were counted in it and not
before; SET EVENT MASK replaces the mask; DIRQ is low outside HOLDOVER exactly while an enabled flag is pending. The
count of all its bytes that DCS rising carries, beside those counted with the commands, is the model's choice (log entry
21). -/
def Obligations.EventsAreReadAndCleared : Prop :=
  (∀ s : State, Serving s →
    exec .readEvents s = .next
      { s with dash := { s.dash with
          frame := .answered 0 .ok (le2 (s.dash.events &&& s.dash.mask).toNat)
            (.clearEvents (s.dash.events &&& s.dash.mask)), counted := 1 } }
    ∧ ∀ mask, exec (.setEventMask mask) s = .next
        (State.reply 2 .ok [] { s with dash := { s.dash with mask := mask } }))
  ∧ (∀ (s : State) (n a : Nat) (r : ResultCode) (bytes : List Byte) (copy : BitVec 16),
      s.dash.frame = .answered a r bytes (.clearEvents copy) → s.supply.standbyRequest = false →
      exec (.dcsRising n) s = .next
        { s with dash := { s.dash with
            frame := .idle, counted := 0
            events := if max s.dash.counted n < 5 then s.dash.events else s.dash.events &&& ~~~copy } })
  ∧ ∀ s : State, s.dirqLow = true ↔
      (s.supply.power ≠ .holdover ∧ ∃ e : Event, s.dash.isPending e = true ∧ s.dash.mask.getLsbD e.bit = true)

/-- R174, R179, R184, R185: DCS falling begins a command frame, or a watch frame with its snapshot, or wakes a part in
STANDBY with its frame discarded, and is ignored in HOLDOVER and while DRST is low; WATCH with hold turns watch mode on
at the end of its frame; the byte 0xA5, under either of its two rows, ends it as the first byte of a watch frame and is
ignored later in one, as every other unlisted byte is throughout; an unknown code is a BAD_COMMAND, 0xA5 in a command
frame among them. A DCS falling inside a frame is outside the statement; that both rows stand for the byte 0xA5 is the
model's reading (log entry 26). -/
def Obligations.FramesBeginAndEnd : Prop :=
  (∀ s : State,
    ((s.dash.drstLow = true ∨ s.supply.power = .holdover) → exec .dcsFalling s = .next s)
    ∧ (s.dash.drstLow = false → s.dash.frame = .idle →
      (s.supply.power = .active → s.dash.watch = none →
        exec .dcsFalling s = .next { s with dash := { s.dash with frame := .receiving, counted := 0 } })
      ∧ (∀ b, s.supply.power = .active → s.dash.watch = some b →
        exec .dcsFalling s = .next
          { s with dash := { s.dash with frame := .watching (s.watchedBlock b), counted := 0 } })
      ∧ (s.supply.power = .standby →
        ∃ t, exec .dcsFalling s = .next t
          ∧ t = { s.wake with dash := { s.wake.dash with frame := .discarded, counted := 0 } }))
    ∧ (s.supply.standbyRequest = false →
      (∀ f, s.dash.frame = f → (∀ a r bytes e, f ≠ .answered a r bytes e) → ∀ n,
        exec (.dcsRising n) s = .next { s with dash := { s.dash with frame := .idle, counted := 0 } })
      ∧ (∀ a r bytes b n, s.dash.frame = .answered a r bytes (.watchOn b) →
        exec (.dcsRising n) s = .next { s with dash := { s.dash with frame := .idle, counted := 0, watch := some b } })
      ∧ (∀ a r bytes n, s.dash.frame = .answered a r bytes .nothing →
        exec (.dcsRising n) s = .next { s with dash := { s.dash with frame := .idle, counted := 0 } }))
    ∧ (∀ snapshot, s.dash.frame = .watching snapshot →
      (∀ i, (i = .watchModeExit ∨ i = .badCommand 0xA5) →
        (s.dash.counted = 0 → exec i s = .next
          { s with dash := { s.dash with frame := .watchEnded snapshot, watch := none, counted := 1 } })
        ∧ (s.dash.counted ≠ 0 → exec i s = .next
          { s with dash := { s.dash with counted := s.dash.counted + 1 } }))
      ∧ ∀ code, (Instr.badCommand code).wellFormed = true → code ≠ 0xA5 → exec (.badCommand code) s = .next
          { s with dash := { s.dash with counted := s.dash.counted + 1 } }))
  ∧ ∀ s : State, Serving s →
    (∀ (b h : Byte) (block : WatchBlock) (hold : Bool), blockArg b = some block → switchArg h = some hold →
      exec (.watch b h) s = .next
        { s with dash := { s.dash with
            frame := .answered 2 .ok (s.watchedBlock block) (if hold = true then .watchOn block else .nothing)
            counted := 3 } })
    ∧ (∀ (b h : Byte), (4 < b.toNat ∨ 1 < h.toNat) → exec (.watch b h) s = .next (s.reply 2 .badArg (zeros 30)))
    ∧ (∀ code, (Instr.badCommand code).wellFormed = true →
      exec (.badCommand code) s = .next (s.reply 0 .badCommand []))
    ∧ exec .watchModeExit s = .next (s.reply 0 .badCommand [])

/-- R185: a link reset taken in ACTIVE or STANDBY gives up the frame, watch mode, the events, staging, the latch, an
announcement, the lamp filter and a standby request, and keeps everything else; DRST then stays low until it rises. The
items of cleared staging and the level of DRST held in the state are the model's choices (log entries 4 and 7). -/
def Obligations.LinkResetKeepsTheRest : Prop :=
  ∀ s : State,
    (s.supply.power ≠ .holdover → ∃ c : Intercom,
      exec .linkReset s = .next
        { s with
          dash := { frame := .idle, counted := 0, watch := none, events := 0, mask := 0xFFFF, drstLow := true }
          store := { s.store with latch := false, stagingLoaded := false, staging := blankImage }
          ic := c
          sign := { s.sign with
            filter := 4, lamps := s.sign.lamps.map (fun l => { l with outRun := 0, inRun := 0 }) }
          supply := { s.supply with standbyRequest := false } }
      ∧ ((∀ g, s.ic.path ≠ .talk g) → c = s.ic)
      ∧ ∀ g, s.ic.path = .talk g → c.path = .free ∧ c.talkTimer = 0 ∧ DeferredChimesSound s.ic c
          ∧ ∀ y, (c.line y).state = (s.ic.line y).state ∧ (c.line y).privacy = (s.ic.line y).privacy
            ∧ (c.line y).tracker = (s.ic.line y).tracker ∧ (c.line y).callTimer = (s.ic.line y).callTimer)
    ∧ exec .drstRising s = .next { s with dash := { s.dash with drstLow := false } }

/-! ### The partition link -/

/-- R188: a slot takes a notice when it is empty or holds one of an equal or lower rank, and drops it otherwise; the
other station's slot is untouched. The ranks are those of the manual. -/
def Obligations.NoticesArePostedByRank : Prop :=
  (∀ (p : PartitionLink) (x : Station) (n : Notice),
    (p.notices.get x = none → (p.post x n).notices.get x = some n)
    ∧ (∀ old, p.notices.get x = some old → old.rank ≤ n.rank → (p.post x n).notices.get x = some n)
    ∧ (∀ old, p.notices.get x = some old → n.rank < old.rank → p.post x n = p)
    ∧ (p.post x n).notices.get x.other = p.notices.get x.other)
  ∧ ∀ (trip due reference amount : Nat) (st : SlotCode) (kind : Byte) (reason : Option Reason),
    (Notice.releaseHold trip reference amount).rank = 5 ∧ (Notice.ack kind reason trip due).rank = 4
      ∧ (Notice.due trip due).rank = 3 ∧ (Notice.topUp trip due reference amount).rank = 2
      ∧ (Notice.fare trip st due).rank = 1

/-- R186, R187, R189: in ACTIVE a selector write sets the selector; a write that is no message sets TERMINAL_ERROR,
with a BAD_MESSAGE ACK to the station it names when its kind or length is wrong; a whole read returns the notice copied,
its sixteen bytes and 0xFF after them, empties the slot of a notice and posts a pending RELEASE_HOLD again; so does a read
taken as its two ends; a shorter read, one of an empty slot, and one whose notice was replaced leave the slot. The part acknowledges its own address, and
each byte written to it, in ACTIVE alone. A read as one whole command, and the field that keeps the bytes a read
returned, are the model's choices (log entries 15 and 34). -/
def Obligations.PartitionTransactionsAreJudged : Prop :=
  (∀ (s : State) (sent : Nat → List Byte), s.supply.power = .active →
    (∀ n, sent n = (noticeBytes s.link.selector (s.link.notices.get s.link.selector) ++ List.replicate n 0xFF).take n) →
    (∀ x, exec (.selectorWrite x) s = .next { s with link := { s.link with selector := x } })
    ∧ (∀ (kind b : Byte) (x : Station) (body : List Byte), stationArg b = some x →
      messageLength kind ≠ some (body.length + 2) →
      exec (.partitionWriteDiscarded (kind :: b :: body)) s = .next
        { s with
          dash := s.dash.raise .terminalError
          link := s.link.post x (.ack kind (some .badMessage) 0 0) })
    ∧ (∀ (kind b : Byte) (body : List Byte), stationArg b = none →
      exec (.partitionWriteDiscarded (kind :: b :: body)) s
        = .next { s with dash := s.dash.raise .terminalError })
    ∧ (∀ kind : Byte, exec (.partitionWriteDiscarded [kind]) s = .next { s with dash := s.dash.raise .terminalError })
    ∧ exec (.partitionWriteDiscarded []) s = .next s
    ∧ (∀ n, (n < 16 ∨ s.link.notices.get s.link.selector = none) →
      exec (.noticeRead (.whole n)) s = .next { s with link := { s.link with read := none, sent := sent n } })
    ∧ (∀ n notice, 16 ≤ n → s.link.notices.get s.link.selector = some notice →
      (∀ i t h, s.slot i = some t → t.hold = some h →
        ¬(h.state = .releasePending ∧ h.station = s.link.selector)) →
      exec (.noticeRead (.whole n)) s = .next
        { s with link := { s.link with
            notices := s.link.notices.set s.link.selector none, read := none, sent := sent n } })
    ∧ (∀ n notice i t p h, 16 ≤ n → s.link.notices.get s.link.selector = some notice →
      s.slot i = some t → t.payment = some p → p.hold = some h → h.state = .releasePending →
      h.station = s.link.selector →
      (∀ j v g, s.slot j = some v → v.hold = some g → g.state = .releasePending → g.station = s.link.selector →
        j ≠ i → t.number < v.number) →
      exec (.noticeRead (.whole n)) s = .next
        { s with link := { s.link with
            notices := s.link.notices.set s.link.selector (some (.releaseHold t.number h.reference h.amount))
            read := none, sent := sent n } })
    ∧ exec (.noticeRead .start) s = .next { s with link := { s.link with
        read := some
          { station := s.link.selector, copy := s.link.notices.get s.link.selector, replaced := false } } }
    ∧ (∀ r n, s.link.read = some r → (n < 16 ∨ r.copy = none ∨ r.replaced = true) →
      exec (.noticeRead (.stop n)) s = .next { s with link := { s.link with
        read := none, sent := (noticeBytes r.station r.copy ++ List.replicate n 0xFF).take n } })
    ∧ (∀ r n notice, s.link.read = some r → 16 ≤ n → r.copy = some notice → r.replaced = false →
      (∀ i t h, s.slot i = some t → t.hold = some h → ¬(h.state = .releasePending ∧ h.station = r.station)) →
      exec (.noticeRead (.stop n)) s = .next { s with link := { s.link with
        notices := s.link.notices.set r.station none, read := none
        sent := (noticeBytes r.station (some notice) ++ List.replicate n 0xFF).take n } })
    ∧ (∀ r n notice i t p h, s.link.read = some r → 16 ≤ n → r.copy = some notice → r.replaced = false →
      s.slot i = some t → t.payment = some p → p.hold = some h → h.state = .releasePending → h.station = r.station →
      (∀ j v g, s.slot j = some v → v.hold = some g → g.state = .releasePending → g.station = r.station →
        j ≠ i → t.number < v.number) →
      exec (.noticeRead (.stop n)) s = .next { s with link := { s.link with
        notices := s.link.notices.set r.station (some (.releaseHold t.number h.reference h.amount)), read := none
        sent := (noticeBytes r.station (some notice) ++ List.replicate n 0xFF).take n } }))
  ∧ ∀ (s : State) (address : BitVec 7) (n : Nat) (x : Station),
    (s.acknowledges address = true ↔ s.supply.power = .active ∧ address = 0x2C)
    ∧ s.writeAcks address n = List.replicate (n + 1) (s.acknowledges address)
    ∧ noticeBytes x none = List.replicate 16 0

/-! ### Supply and standby -/

/-- R172, R173: STANDBY leaves its request on its frame, whose end enters STANDBY, or drops the request when a fare has
become active; R171: so does the ignition-off timer's expiry with no fare active and the store IDLE. Standby entry
blanks the sign, frees the intercom, empties the notice slots, ends watch mode and stops the timer. R174: a wake makes
the part ACTIVE with its trackers LONG, the selector L, the sign derived, and in each empty slot the RELEASE_HOLD of the
station's pending hold whose fare has the lowest trip number (R189).
That the expiry is a command of its own is the model's choice (log entry 9), and that the copy of a READ EVENTS answer goes
with its frame is its reading (log entry 37). -/
def Obligations.StandbyIsEntered : Prop :=
  (∀ s : State, Serving s →
    (s.anyActive = true → exec .standby s = .next (s.reply 0 .openTrips []))
    ∧ (s.anyActive = false → s.store.state ≠ .idle → exec .standby s = .next (s.reply 0 .busy []))
    ∧ (s.anyActive = false → s.store.state = .idle → exec .standby s = .next
        (State.reply 0 .ok [] { s with supply := { s.supply with standbyRequest := true } })))
  ∧ (∀ (s : State) (n a : Nat) (r : ResultCode) (bytes : List Byte), s.supply.power = .active →
      s.supply.standbyRequest = true → s.dash.frame = .answered a r bytes .nothing →
      (s.anyActive = false → ∃ t, exec (.dcsRising n) s = .next t ∧ t = s.enterStandby)
      ∧ (s.anyActive = true → exec (.dcsRising n) s = .next
        { s with
          dash := { s.dash with frame := .idle, counted := 0 }, supply := { s.supply with standbyRequest := false } }))
  ∧ (∀ s : State, s.supply.power = .active → s.supply.ignitionOn = false → s.anyActive = false →
      s.store.state = .idle → 299 ≤ s.supply.offTimer →
      ∃ t, exec .ignitionOffTimerExpiry s = .next t ∧ t = s.enterStandby)
  ∧ (∀ s : State,
      s.enterStandby.supply = { s.supply with power := .standby, offTimer := 0, standbyRequest := false }
      ∧ s.enterStandby.sign.shown = .blank
      ∧ (∀ l ∈ s.enterStandby.sign.lamps.list, l.outRun = 0 ∧ l.inRun = 0)
      ∧ s.enterStandby.ic.path = .free ∧ s.enterStandby.ic.tone = none
      ∧ (∀ x, (s.enterStandby.ic.line x).state = .idle
          ∧ (s.enterStandby.ic.line x).privacy = (s.ic.line x).privacy)
      ∧ s.enterStandby.link.notices = ⟨none, none⟩
      ∧ s.enterStandby.dash = { s.dash with frame := .idle, counted := 0, watch := none }
      ∧ s.enterStandby.slots = s.slots ∧ s.enterStandby.cal = s.cal ∧ s.enterStandby.dist = s.dist
      ∧ s.enterStandby.store = s.store ∧ s.enterStandby.shift = s.shift ∧ s.enterStandby.prev = s.prev
      ∧ s.enterStandby.tot = s.tot)
  ∧ ∀ s : State,
      s.wake.supply = { s.supply with power := .active, offTimer := 0 }
      ∧ SignFollows s.wake ∧ (∀ l ∈ s.wake.sign.lamps.list, l.outRun = 0 ∧ l.inRun = 0)
      ∧ s.wake.ic.path = s.ic.path ∧ (∀ x, s.wake.ic.line x = { s.ic.line x with tracker := .long })
      ∧ s.wake.link.selector = .left
      ∧ (∀ x, s.link.notices.get x = none → ((s.wake.link.notices.get x).isSome = true
          ↔ ∃ i t h, s.slot i = some t ∧ t.hold = some h ∧ h.state = .releasePending ∧ h.station = x))
      ∧ (∀ x i t h, s.link.notices.get x = none → s.slot i = some t → t.hold = some h → h.state = .releasePending →
          h.station = x →
          (∀ j v g, s.slot j = some v → v.hold = some g → g.state = .releasePending → g.station = x → j ≠ i →
            t.number < v.number) →
          s.wake.link.notices.get x = some (.releaseHold t.number h.reference h.amount))
      ∧ s.wake.dash = s.dash ∧ s.wake.slots = s.slots ∧ s.wake.cal = s.cal ∧ s.wake.dist = s.dist
      ∧ s.wake.store = s.store ∧ s.wake.shift = s.shift ∧ s.wake.prev = s.prev ∧ s.wake.tot = s.tot

/-- R25, R40, R96, R175: a supply loss settles and pauses every RUNNING fare, a hold's warning given where the settlement
gives one (R37, R105) with its notice and event lost in the same event, interrupts a store write with its marker left, and enters HOLDOVER; the calendar, the shift records and the totalizers are kept, and a loss in HOLDOVER changes
nothing. R177: a loss of the battery domain leaves the retention mark not intact. That the loss of the battery changes
that mark alone is the model's reading (log entry 8); so is that the events are cleared and the mask set at the loss
itself (log entry 30); that the run counts of the sensor, and the other volatile
values set at the return, keep what they hold through HOLDOVER (log entry 38), and what the store holds behind an
interrupted write (log entry 16), are the model's choices. -/
def Obligations.SupplyLossPausesAndKeeps : Prop :=
  (∀ s : State, s.supply.power = .holdover → exec .supplyLoss s = .next s)
  ∧ (∀ s : State, s.supply.power ≠ .holdover → ∃ t, exec .supplyLoss s = .next t
      ∧ t.supply = { s.supply with power := .holdover, standbyRequest := false }
      ∧ (∀ i v, s.slot i = some v → v.state ≠ .running → t.slot i = some v)
      ∧ (∀ i v, s.slot i = some v → v.state = .running → v.hold = none → t.slot i = some
          { settleWindow (s.store.active.tariff v.currentTariff) s.runningCount v with
            state := .paused, powerPaused := true })
      ∧ (∀ i v w p h, s.slot i = some v → v.state = .running → v.payment = some p → p.hold = some h →
          w = settleWindow (s.store.active.tariff v.currentTariff) s.runningCount v →
          (¬ WarnsHold s v w h → t.slot i = some { w with state := .paused, powerPaused := true })
          ∧ (WarnsHold s v w h → t.slot i = some { w with
              state := .paused, powerPaused := true
              payment := some { p with hold := some { h with warned := true } } }))
      ∧ t.store = { s.store with state := .idle, readCopy := none, write := none }
      ∧ t.sign.shown = .blank ∧ t.sign.tracker = .up ∧ t.sign.latch = s.sign.latch
      ∧ t.dist = { s.dist with window := 0, overspeed := false }
      ∧ t.dash = { frame := .idle, counted := 0, watch := none, events := 0, mask := 0xFFFF, drstLow := s.dash.drstLow }
      ∧ t.link.notices = ⟨none, none⟩
      ∧ t.ic.tone = none ∧ t.ic.path = s.ic.path
      ∧ (∀ x, t.ic.line x = { s.ic.line x with fareChime := none })
      ∧ t.cal = s.cal ∧ t.shift = s.shift ∧ t.prev = s.prev ∧ t.tot = s.tot)
  ∧ ∀ s : State, exec .batteryDomainLoss s = .next { s with supply := { s.supply with retention := false } }

/-- R96, R176: a supply return counts the interruption, resolves the write marker, evaluates the schedule, and gives the
part back ACTIVE with SUPPLY pending. R76, R77: the slots, the calendar tariff and the deciding window are those that the
evaluation gives, made after an interrupted commit has left both absent, and TARIFF_SWITCH is pending exactly when it named
another tariff; of a record nothing changes but its segments, progress and remainder. R120, R189: each notice slot is empty but for the RELEASE_HOLD
of the station's pending hold whose fare has the lowest trip number, posted again. The shift records are kept. R58: the
sensor state is kept with both run counts 0. -/
def Obligations.SupplyReturnResumes : Prop :=
  ∀ s u : State, s.supply.power = .holdover → s.supply.retention = true → StoreIdleUnpowered s →
    u = { s with cal := if s.store.marker = some .commit then { s.cal with tariff := none, deciding := none } else s.cal } →
    ∃ t, exec .supplyReturn s = .next t
    ∧ t.supply = { s.supply with power := .active, ignitionRun := 0, lastCold := false }
    ∧ t.tot = { s.tot with supplyInterruptions := satAdd s.tot.supplyInterruptions 1 }
    ∧ SignFollows t ∧ t.sign.filter = 4 ∧ t.sign.tracker = .up ∧ t.sign.duty = s.sign.duty
    ∧ t.sign.latch = s.sign.latch
    ∧ t.slots = u.evaluate.slots ∧ t.cal = u.evaluate.cal
    ∧ (t.dash.isPending .tariffSwitch = true ↔ u.evaluate.cal.tariff ≠ u.cal.tariff)
    ∧ (∀ i v, s.slot i = some v → ∃ w, t.slot i = some w
        ∧ w = { v with segments := w.segments, segmentsFull := w.segmentsFull, progress := w.progress,
                       remainder := w.remainder })
    ∧ (∀ i, (t.slot i).map (·.state) = (s.slot i).map (·.state))
    ∧ t.dash.isPending .supply = true ∧ t.dash.mask = 0xFFFF ∧ t.dash.frame = .idle ∧ t.dash.watch = none
    ∧ (t.dash.isPending .commitFailed = true ↔ s.store.marker = some .commit)
    ∧ t.store.latch = false ∧ t.store.stagingLoaded = false ∧ t.store.switchOpen = s.store.switchOpen
    ∧ t.store.switchRun = 0 ∧ t.store.valid = s.store.valid ∧ t.store.version = s.store.version
    ∧ (s.store.marker = some .commit → t.store.marker = none ∧ t.cal.tariff.isSome = (s.store.valid && s.cal.clockSet))
    ∧ (s.store.marker = some .mirror → t.store.state = .mirrorWrite ∧ t.store.marker = some .mirror
        ∧ ∃ w, t.store.write = some w ∧ w.totals = t.tot)
    ∧ t.ic.path = .free ∧ (∀ x, (t.ic.line x).state = .idle ∧ (t.ic.line x).tracker = .long
        ∧ (t.ic.line x).privacy = (s.ic.line x).privacy)
    ∧ (∀ x, (t.link.notices.get x).isSome = true
        ↔ ∃ i v h, s.slot i = some v ∧ v.hold = some h ∧ h.state = .releasePending ∧ h.station = x)
    ∧ (∀ x i v h, s.slot i = some v → v.hold = some h → h.state = .releasePending → h.station = x →
        (∀ j w g, s.slot j = some w → w.hold = some g → g.state = .releasePending → g.station = x → j ≠ i →
          v.number < w.number) →
        t.link.notices.get x = some (.releaseHold v.number h.reference h.amount))
    ∧ t.link.read = none
    ∧ t.link.selector = .left ∧ t.cal.time = s.cal.time ∧ t.shift = s.shift ∧ t.prev = s.prev
    ∧ t.dist = { s.dist with
        settings := if s.store.valid = true then some (imageSettings s.store.active) else s.dist.settings
        accumulator := if s.store.valid = true ∧ s.dist.settings.map (·.pulsesPerKm) ≠ some s.store.active.pulsesPerKm
          then 0 else s.dist.accumulator
        lowRun := 0, highRun := 0 }

/-- R168, R177: a cold start frees the slots, drops both shift records, resets every block, takes the totalizers of the
mirror with the cold starts raised, begins their mirror write, and leaves the part ACTIVE and OFF_DUTY with SUPPLY
pending. R59, R97, R150: the accumulator, the window, the mark and both run counts of the sensor are 0 and it is HEALTHY;
latch and staging are cleared and the service switch is CLOSED with its run 0; the lamps are HEALTHY with counts 0 and the
alert switch tracker is UP. From the unwritten store it gives the state after reset. The unwritten store's items and the state after reset
are the model's choices (log entries 3 and 4). -/
def Obligations.ColdStartBeginsAgain : Prop :=
  (∀ s : State, s.supply.power = .holdover → s.supply.retention = false → ∃ t, exec .coldStart s = .next t
    ∧ t.slots = ⟨none, none, none, none⟩ ∧ t.shift = none ∧ t.prev = none
    ∧ t.cal = { time := ⟨2000, 1, 1, 0, 0, 0⟩, weekday := .saturday, clockSet := false, tariff := none, deciding := none }
    ∧ t.tot = { s.store.mirror.value with coldStarts := satAdd s.store.mirror.value.coldStarts 1 }
    ∧ t.store.state = .mirrorWrite ∧ t.store.marker = some .mirror ∧ t.store.active = s.store.active
    ∧ t.store.valid = s.store.valid ∧ t.store.version = s.store.version ∧ t.store.switchOpen = false
    ∧ (∃ w, t.store.write = some w ∧ w.totals = t.tot)
    ∧ t.store.switchRun = 0 ∧ t.store.latch = false ∧ t.store.stagingLoaded = false ∧ t.store.staging = blankImage
    ∧ t.dist = { settings := if s.store.valid = true then some (imageSettings s.store.active) else none,
                 accumulator := 0, window := 0, overspeed := false, faulted := false, lowRun := 0, highRun := 0 }
    ∧ t.ic = coldIntercom ∧ t.sign.shown = .offDuty ∧ t.sign.duty = true ∧ t.sign.shareAccept = false
    ∧ t.sign.latch = false ∧ t.sign.filter = 4 ∧ t.sign.tracker = .up
    ∧ (∀ l ∈ t.sign.lamps.list, l.faulted = false ∧ l.outRun = 0 ∧ l.inRun = 0)
    ∧ t.supply = { power := .active, ignitionOn := false, ignitionRun := 0, offTimer := 0, standbyRequest := false,
                   retention := true, lastCold := true }
    ∧ t.dash.frame = .idle ∧ t.dash.watch = none ∧ t.dash.mask = 0xFFFF ∧ t.dash.isPending .supply = true
    ∧ (t.dash.isPending .commitFailed = true ↔ s.store.marker = some .commit)
    ∧ t.link = { notices := ⟨none, none⟩, selector := .left, read := none, sent := [] })
  ∧ ∀ s : State, s.supply.power = .holdover → s.supply.retention = false → s.store = unwrittenStore →
      s.dash.drstLow = false → s.pending = [] → exec .coldStart s = .next State.reset

/-- R30, R53, R62, R64, R76, R157: a rollover advances the stamp in every power state, wrapped at the end of the range with
the clock unset (R63). In HOLDOVER, with no fare RUNNING and the second empty, it does nothing else. In STANDBY, with no
fare RUNNING, it closes the second, counts a break second, and at a minute rollover evaluates. In ACTIVE it credits the
RUNNING fares, closes the second, lets every timer of a fare, a call, a conversation and an announcement count (R12, R108,
R128, R132, R134), each with its expiry at its last second, counts a break second, and at a minute rollover evaluates. The
ignition-off timer (R171) is kept with the ignition ON, set to 0 with a fare active, and else rises by 1 up to 300, where it
waits while the store is busy and enters STANDBY (R173) when it is IDLE. The order of the blocks within it is the model's choice
where the manual leaves it open (log entry 10), and the weekday after the wrap of the range is its reading (log entry
29). -/
def Obligations.SecondRolloverIsTaken : Prop :=
  ∀ (next : Calendar → Calendar) (minute : State → State),
    (∀ c, next c =
      if c.time = ⟨2099, 12, 31, 23, 59, 59⟩ then
        { time := ⟨2000, 1, 1, 0, 0, 0⟩, weekday := .saturday, clockSet := false, tariff := none, deciding := none }
      else { c with time := nextSecond c.time, weekday := weekdayOf (nextSecond c.time) }) →
    (∀ u, minute u = if u.cal.time.second = 0 then u.evaluate else u) →
  (∀ s : State, s.supply.power = .holdover → SignFollows s → s.runningCount = 0 → s.dist.window = 0 →
    s.dist.overspeed = false → exec .secondRollover s = .next { s with cal := next s.cal })
  ∧ (∀ s : State, s.supply.power = .standby → SignFollows s → s.runningCount = 0 →
    exec .secondRollover s = .next (minute
      { s with
        cal := next s.cal
        dist := { s.dist with window := 0, overspeed := false }
        dash := if s.dist.overspeed = true then s.dash.raise .overspeed else s.dash
        shift := s.shift.map (fun sh =>
          { sh with
            overspeedSeconds := if s.dist.overspeed = true then satAdd sh.overspeedSeconds 1 else sh.overspeedSeconds
            breakSeconds := if sh.state = .onBreak then satAdd sh.breakSeconds 1 else sh.breakSeconds }) }))
  ∧ (∀ s : State, s.supply.power = .active → ∃ t, exec .secondRollover s = .next t
      ∧ t.cal = (minute { s with cal := next s.cal }).cal
      ∧ t.cal.time = nextSecond s.cal.time ∧ t.cal.weekday = weekdayOf (nextSecond s.cal.time)
      ∧ (t.cal.tariff ≠ (next s.cal).tariff → t.dash.isPending .tariffSwitch = true)
      ∧ t.dist = { s.dist with window := 0, overspeed := false }
      ∧ (s.dist.overspeed = true → t.dash.isPending .overspeed = true)
      ∧ t.tot = s.tot ∧ t.store = s.store ∧ t.prev = s.prev
      ∧ (∀ i v, s.slot i = some v → v.state = .running →
          t.slot i = (minute { s with cal := next s.cal, slots := s.fareSecond.slots }).slot i)
      ∧ (∀ i v, s.slot i = some v → v.state = .running → v.hold = none → (nextSecond s.cal.time).second ≠ 0 →
          t.slot i = some (creditSecond (s.store.active.tariff v.currentTariff) s.runningCount v))
      ∧ (∀ i v, s.slot i = some v → (v.state = .paused ∨ v.state = .settled) →
          t.slot i = (minute { s with cal := next s.cal }).slot i)
      ∧ (∀ i, s.slot i = none → t.slot i = none)
      ∧ (∀ i v g, s.slot i = some v → v.state = .stopped → v.grace = some g →
          t.slot i = some { v with grace := some { g with count := min (g.count + 1) 20 } })
      ∧ (∀ i v p g, s.slot i = some v → v.state = .settling → v.payment = some p → v.grace = some g →
          (1 < p.timer → t.slot i = some { v with
            payment := some { p with timer := p.timer - 1 }
            grace := some { g with count := min (g.count + 1) 20 } })
          ∧ (p.timer ≤ 1 →
            t.slot i = some { v with
              state := .stopped
              payment := some { p with attempt := .timedOut, timer := 0 }
              grace := some { g with count := min (g.count + 1) 20 } }
            ∧ t.dash.isPending .fare = true
            ∧ (s.runningCount = 0 → (∀ j w, j ≠ i → s.slot j = some w → w.state ≠ .settling) →
              t.link = (s.postAll v.stations (.due v.number v.totalDue)).link)))
      ∧ (∀ sh, s.shift = some sh → ∃ sh', t.shift = some sh' ∧ sh'.state = sh.state
          ∧ sh'.breakSeconds = if sh.state = .onBreak then satAdd sh.breakSeconds 1 else sh.breakSeconds)
      ∧ (s.supply.ignitionOn = true → t.supply = s.supply)
      ∧ (s.supply.ignitionOn = false → s.anyActive = true → t.supply = { s.supply with offTimer := 0 })
      ∧ (s.supply.ignitionOn = false → s.anyActive = false → s.supply.offTimer < 299 →
          t.supply = { s.supply with offTimer := s.supply.offTimer + 1 })
      ∧ (s.supply.ignitionOn = false → s.anyActive = false → 299 ≤ s.supply.offTimer → s.store.state ≠ .idle →
          t.supply = { s.supply with offTimer := 300 })
      ∧ ((s.supply.ignitionOn = false ∧ s.anyActive = false ∧ s.store.state = .idle ∧ 299 ≤ s.supply.offTimer) →
          t.supply = { s.supply with power := .standby, offTimer := 0, standbyRequest := false }
          ∧ t.sign.shown = .blank ∧ t.ic.path = .free ∧ t.link.notices = ⟨none, none⟩)
      ∧ ((s.supply.ignitionOn = true ∨ s.anyActive = true ∨ s.store.state ≠ .idle ∨ s.supply.offTimer < 299) →
          t.supply.power = .active ∧ SignFollows t
          ∧ (∀ x, s.ic.isCalling x = true → s.ic.path ≠ .linked x →
            (1 < (s.ic.line x).callTimer →
              (t.ic.line x).state = .calling ∧ (t.ic.line x).callTimer = (s.ic.line x).callTimer - 1)
            ∧ ((s.ic.line x).callTimer ≤ 1 →
              (t.ic.line x).state = .idle ∧ (t.ic.line x).callTimer = 0 ∧ (t.ic.line x).deferred = false
              ∧ t.dash.isPending .callMissed = true
              ∧ ∀ sh, s.shift = some sh → ∃ sh', t.shift = some sh'
                ∧ ((s.ic.isCalling x.other = false ∨ 1 < (s.ic.line x.other).callTimer) →
                  sh'.missedCalls = satAdd sh.missedCalls 1)
                ∧ (s.ic.isCalling x.other = true → (s.ic.line x.other).callTimer ≤ 1 →
                  sh'.missedCalls = satAdd sh.missedCalls 2)))
          ∧ (∀ x, s.ic.path = .linked x → 1 < s.ic.connectionTimer →
            t.ic.path = .linked x ∧ t.ic.connectionTimer = s.ic.connectionTimer - 1)
          ∧ (∀ g, s.ic.path = .talk g → 1 < s.ic.talkTimer →
            t.ic.path = .talk g ∧ t.ic.talkTimer = s.ic.talkTimer - 1)
          ∧ (∀ x, s.ic.path = .linked x → s.ic.connectionTimer ≤ 1 →
            t.ic.path = .free ∧ t.ic.connectionTimer = 0 ∧ (t.ic.line x).state = .idle)
          ∧ (∀ g, s.ic.path = .talk g → s.ic.talkTimer ≤ 1 → t.ic.path = .free ∧ t.ic.talkTimer = 0)
          ∧ ((∀ y, s.ic.isCalling y = true → 1 < (s.ic.line y).callTimer) →
            ((∃ g, s.ic.path = .talk g ∧ s.ic.talkTimer ≤ 1)
              ∨ ∃ x, s.ic.path = .linked x ∧ s.ic.isConnected x = true ∧ s.ic.connectionTimer ≤ 1) →
            DeferredChimesSound s.ic t.ic)))
  ∧ ∀ s : State, (s.dist.overspeed = true →
      s.closeSecond.dist = { s.dist with window := 0, overspeed := false }
      ∧ s.closeSecond.dash = s.dash.raise .overspeed
      ∧ s.closeSecond.shift = s.shift.map (fun sh =>
          { sh with overspeedSeconds := satAdd sh.overspeedSeconds 1 }))
    ∧ (s.dist.overspeed = false → s.closeSecond = { s with dist := { s.dist with window := 0, overspeed := false } })
end

