-- ==== Sys2Proof/Laws/State.lean ====
section
/-! SUPPORT. What each change of one block leaves of every field, each true by definition, so that no proof unfolds a
record update; and reading after writing the slots, the stations and the lamps. -/

namespace Sys2Proof.Machine

/-! ### onSlots -/

@[simp] theorem State.onSlots_slots (f : Four (Option Trip) → Four (Option Trip)) (s : State) : (State.onSlots f s).slots = f s.slots := rfl
@[simp] theorem State.onSlots_cal (f : Four (Option Trip) → Four (Option Trip)) (s : State) : (State.onSlots f s).cal = s.cal := rfl
@[simp] theorem State.onSlots_dist (f : Four (Option Trip) → Four (Option Trip)) (s : State) : (State.onSlots f s).dist = s.dist := rfl
@[simp] theorem State.onSlots_store (f : Four (Option Trip) → Four (Option Trip)) (s : State) : (State.onSlots f s).store = s.store := rfl
@[simp] theorem State.onSlots_ic (f : Four (Option Trip) → Four (Option Trip)) (s : State) : (State.onSlots f s).ic = s.ic := rfl
@[simp] theorem State.onSlots_sign (f : Four (Option Trip) → Four (Option Trip)) (s : State) : (State.onSlots f s).sign = s.sign := rfl
@[simp] theorem State.onSlots_shift (f : Four (Option Trip) → Four (Option Trip)) (s : State) : (State.onSlots f s).shift = s.shift := rfl
@[simp] theorem State.onSlots_prev (f : Four (Option Trip) → Four (Option Trip)) (s : State) : (State.onSlots f s).prev = s.prev := rfl
@[simp] theorem State.onSlots_tot (f : Four (Option Trip) → Four (Option Trip)) (s : State) : (State.onSlots f s).tot = s.tot := rfl
@[simp] theorem State.onSlots_supply (f : Four (Option Trip) → Four (Option Trip)) (s : State) : (State.onSlots f s).supply = s.supply := rfl
@[simp] theorem State.onSlots_dash (f : Four (Option Trip) → Four (Option Trip)) (s : State) : (State.onSlots f s).dash = s.dash := rfl
@[simp] theorem State.onSlots_link (f : Four (Option Trip) → Four (Option Trip)) (s : State) : (State.onSlots f s).link = s.link := rfl
@[simp] theorem State.onSlots_pending (f : Four (Option Trip) → Four (Option Trip)) (s : State) : (State.onSlots f s).pending = s.pending := rfl

/-! ### onCal -/

@[simp] theorem State.onCal_slots (f : Calendar → Calendar) (s : State) : (State.onCal f s).slots = s.slots := rfl
@[simp] theorem State.onCal_cal (f : Calendar → Calendar) (s : State) : (State.onCal f s).cal = f s.cal := rfl
@[simp] theorem State.onCal_dist (f : Calendar → Calendar) (s : State) : (State.onCal f s).dist = s.dist := rfl
@[simp] theorem State.onCal_store (f : Calendar → Calendar) (s : State) : (State.onCal f s).store = s.store := rfl
@[simp] theorem State.onCal_ic (f : Calendar → Calendar) (s : State) : (State.onCal f s).ic = s.ic := rfl
@[simp] theorem State.onCal_sign (f : Calendar → Calendar) (s : State) : (State.onCal f s).sign = s.sign := rfl
@[simp] theorem State.onCal_shift (f : Calendar → Calendar) (s : State) : (State.onCal f s).shift = s.shift := rfl
@[simp] theorem State.onCal_prev (f : Calendar → Calendar) (s : State) : (State.onCal f s).prev = s.prev := rfl
@[simp] theorem State.onCal_tot (f : Calendar → Calendar) (s : State) : (State.onCal f s).tot = s.tot := rfl
@[simp] theorem State.onCal_supply (f : Calendar → Calendar) (s : State) : (State.onCal f s).supply = s.supply := rfl
@[simp] theorem State.onCal_dash (f : Calendar → Calendar) (s : State) : (State.onCal f s).dash = s.dash := rfl
@[simp] theorem State.onCal_link (f : Calendar → Calendar) (s : State) : (State.onCal f s).link = s.link := rfl
@[simp] theorem State.onCal_pending (f : Calendar → Calendar) (s : State) : (State.onCal f s).pending = s.pending := rfl

/-! ### onDist -/

@[simp] theorem State.onDist_slots (f : Distance → Distance) (s : State) : (State.onDist f s).slots = s.slots := rfl
@[simp] theorem State.onDist_cal (f : Distance → Distance) (s : State) : (State.onDist f s).cal = s.cal := rfl
@[simp] theorem State.onDist_dist (f : Distance → Distance) (s : State) : (State.onDist f s).dist = f s.dist := rfl
@[simp] theorem State.onDist_store (f : Distance → Distance) (s : State) : (State.onDist f s).store = s.store := rfl
@[simp] theorem State.onDist_ic (f : Distance → Distance) (s : State) : (State.onDist f s).ic = s.ic := rfl
@[simp] theorem State.onDist_sign (f : Distance → Distance) (s : State) : (State.onDist f s).sign = s.sign := rfl
@[simp] theorem State.onDist_shift (f : Distance → Distance) (s : State) : (State.onDist f s).shift = s.shift := rfl
@[simp] theorem State.onDist_prev (f : Distance → Distance) (s : State) : (State.onDist f s).prev = s.prev := rfl
@[simp] theorem State.onDist_tot (f : Distance → Distance) (s : State) : (State.onDist f s).tot = s.tot := rfl
@[simp] theorem State.onDist_supply (f : Distance → Distance) (s : State) : (State.onDist f s).supply = s.supply := rfl
@[simp] theorem State.onDist_dash (f : Distance → Distance) (s : State) : (State.onDist f s).dash = s.dash := rfl
@[simp] theorem State.onDist_link (f : Distance → Distance) (s : State) : (State.onDist f s).link = s.link := rfl
@[simp] theorem State.onDist_pending (f : Distance → Distance) (s : State) : (State.onDist f s).pending = s.pending := rfl

/-! ### onStore -/

@[simp] theorem State.onStore_slots (f : Store → Store) (s : State) : (State.onStore f s).slots = s.slots := rfl
@[simp] theorem State.onStore_cal (f : Store → Store) (s : State) : (State.onStore f s).cal = s.cal := rfl
@[simp] theorem State.onStore_dist (f : Store → Store) (s : State) : (State.onStore f s).dist = s.dist := rfl
@[simp] theorem State.onStore_store (f : Store → Store) (s : State) : (State.onStore f s).store = f s.store := rfl
@[simp] theorem State.onStore_ic (f : Store → Store) (s : State) : (State.onStore f s).ic = s.ic := rfl
@[simp] theorem State.onStore_sign (f : Store → Store) (s : State) : (State.onStore f s).sign = s.sign := rfl
@[simp] theorem State.onStore_shift (f : Store → Store) (s : State) : (State.onStore f s).shift = s.shift := rfl
@[simp] theorem State.onStore_prev (f : Store → Store) (s : State) : (State.onStore f s).prev = s.prev := rfl
@[simp] theorem State.onStore_tot (f : Store → Store) (s : State) : (State.onStore f s).tot = s.tot := rfl
@[simp] theorem State.onStore_supply (f : Store → Store) (s : State) : (State.onStore f s).supply = s.supply := rfl
@[simp] theorem State.onStore_dash (f : Store → Store) (s : State) : (State.onStore f s).dash = s.dash := rfl
@[simp] theorem State.onStore_link (f : Store → Store) (s : State) : (State.onStore f s).link = s.link := rfl
@[simp] theorem State.onStore_pending (f : Store → Store) (s : State) : (State.onStore f s).pending = s.pending := rfl

/-! ### onIc -/

@[simp] theorem State.onIc_slots (f : Intercom → Intercom) (s : State) : (State.onIc f s).slots = s.slots := rfl
@[simp] theorem State.onIc_cal (f : Intercom → Intercom) (s : State) : (State.onIc f s).cal = s.cal := rfl
@[simp] theorem State.onIc_dist (f : Intercom → Intercom) (s : State) : (State.onIc f s).dist = s.dist := rfl
@[simp] theorem State.onIc_store (f : Intercom → Intercom) (s : State) : (State.onIc f s).store = s.store := rfl
@[simp] theorem State.onIc_ic (f : Intercom → Intercom) (s : State) : (State.onIc f s).ic = f s.ic := rfl
@[simp] theorem State.onIc_sign (f : Intercom → Intercom) (s : State) : (State.onIc f s).sign = s.sign := rfl
@[simp] theorem State.onIc_shift (f : Intercom → Intercom) (s : State) : (State.onIc f s).shift = s.shift := rfl
@[simp] theorem State.onIc_prev (f : Intercom → Intercom) (s : State) : (State.onIc f s).prev = s.prev := rfl
@[simp] theorem State.onIc_tot (f : Intercom → Intercom) (s : State) : (State.onIc f s).tot = s.tot := rfl
@[simp] theorem State.onIc_supply (f : Intercom → Intercom) (s : State) : (State.onIc f s).supply = s.supply := rfl
@[simp] theorem State.onIc_dash (f : Intercom → Intercom) (s : State) : (State.onIc f s).dash = s.dash := rfl
@[simp] theorem State.onIc_link (f : Intercom → Intercom) (s : State) : (State.onIc f s).link = s.link := rfl
@[simp] theorem State.onIc_pending (f : Intercom → Intercom) (s : State) : (State.onIc f s).pending = s.pending := rfl

/-! ### onSign -/

@[simp] theorem State.onSign_slots (f : Sign → Sign) (s : State) : (State.onSign f s).slots = s.slots := rfl
@[simp] theorem State.onSign_cal (f : Sign → Sign) (s : State) : (State.onSign f s).cal = s.cal := rfl
@[simp] theorem State.onSign_dist (f : Sign → Sign) (s : State) : (State.onSign f s).dist = s.dist := rfl
@[simp] theorem State.onSign_store (f : Sign → Sign) (s : State) : (State.onSign f s).store = s.store := rfl
@[simp] theorem State.onSign_ic (f : Sign → Sign) (s : State) : (State.onSign f s).ic = s.ic := rfl
@[simp] theorem State.onSign_sign (f : Sign → Sign) (s : State) : (State.onSign f s).sign = f s.sign := rfl
@[simp] theorem State.onSign_shift (f : Sign → Sign) (s : State) : (State.onSign f s).shift = s.shift := rfl
@[simp] theorem State.onSign_prev (f : Sign → Sign) (s : State) : (State.onSign f s).prev = s.prev := rfl
@[simp] theorem State.onSign_tot (f : Sign → Sign) (s : State) : (State.onSign f s).tot = s.tot := rfl
@[simp] theorem State.onSign_supply (f : Sign → Sign) (s : State) : (State.onSign f s).supply = s.supply := rfl
@[simp] theorem State.onSign_dash (f : Sign → Sign) (s : State) : (State.onSign f s).dash = s.dash := rfl
@[simp] theorem State.onSign_link (f : Sign → Sign) (s : State) : (State.onSign f s).link = s.link := rfl
@[simp] theorem State.onSign_pending (f : Sign → Sign) (s : State) : (State.onSign f s).pending = s.pending := rfl

/-! ### credit -/

@[simp] theorem State.credit_slots (f : Shift → Shift) (s : State) : (State.credit f s).slots = s.slots := rfl
@[simp] theorem State.credit_cal (f : Shift → Shift) (s : State) : (State.credit f s).cal = s.cal := rfl
@[simp] theorem State.credit_dist (f : Shift → Shift) (s : State) : (State.credit f s).dist = s.dist := rfl
@[simp] theorem State.credit_store (f : Shift → Shift) (s : State) : (State.credit f s).store = s.store := rfl
@[simp] theorem State.credit_ic (f : Shift → Shift) (s : State) : (State.credit f s).ic = s.ic := rfl
@[simp] theorem State.credit_sign (f : Shift → Shift) (s : State) : (State.credit f s).sign = s.sign := rfl
@[simp] theorem State.credit_shift (f : Shift → Shift) (s : State) : (State.credit f s).shift = s.shift.map f := rfl
@[simp] theorem State.credit_prev (f : Shift → Shift) (s : State) : (State.credit f s).prev = s.prev := rfl
@[simp] theorem State.credit_tot (f : Shift → Shift) (s : State) : (State.credit f s).tot = s.tot := rfl
@[simp] theorem State.credit_supply (f : Shift → Shift) (s : State) : (State.credit f s).supply = s.supply := rfl
@[simp] theorem State.credit_dash (f : Shift → Shift) (s : State) : (State.credit f s).dash = s.dash := rfl
@[simp] theorem State.credit_link (f : Shift → Shift) (s : State) : (State.credit f s).link = s.link := rfl
@[simp] theorem State.credit_pending (f : Shift → Shift) (s : State) : (State.credit f s).pending = s.pending := rfl

/-! ### putShift -/

@[simp] theorem State.putShift_slots (f : Option Shift) (s : State) : (State.putShift f s).slots = s.slots := rfl
@[simp] theorem State.putShift_cal (f : Option Shift) (s : State) : (State.putShift f s).cal = s.cal := rfl
@[simp] theorem State.putShift_dist (f : Option Shift) (s : State) : (State.putShift f s).dist = s.dist := rfl
@[simp] theorem State.putShift_store (f : Option Shift) (s : State) : (State.putShift f s).store = s.store := rfl
@[simp] theorem State.putShift_ic (f : Option Shift) (s : State) : (State.putShift f s).ic = s.ic := rfl
@[simp] theorem State.putShift_sign (f : Option Shift) (s : State) : (State.putShift f s).sign = s.sign := rfl
@[simp] theorem State.putShift_shift (f : Option Shift) (s : State) : (State.putShift f s).shift = f := rfl
@[simp] theorem State.putShift_prev (f : Option Shift) (s : State) : (State.putShift f s).prev = s.prev := rfl
@[simp] theorem State.putShift_tot (f : Option Shift) (s : State) : (State.putShift f s).tot = s.tot := rfl
@[simp] theorem State.putShift_supply (f : Option Shift) (s : State) : (State.putShift f s).supply = s.supply := rfl
@[simp] theorem State.putShift_dash (f : Option Shift) (s : State) : (State.putShift f s).dash = s.dash := rfl
@[simp] theorem State.putShift_link (f : Option Shift) (s : State) : (State.putShift f s).link = s.link := rfl
@[simp] theorem State.putShift_pending (f : Option Shift) (s : State) : (State.putShift f s).pending = s.pending := rfl

/-! ### putPrev -/

@[simp] theorem State.putPrev_slots (f : Option Shift) (s : State) : (State.putPrev f s).slots = s.slots := rfl
@[simp] theorem State.putPrev_cal (f : Option Shift) (s : State) : (State.putPrev f s).cal = s.cal := rfl
@[simp] theorem State.putPrev_dist (f : Option Shift) (s : State) : (State.putPrev f s).dist = s.dist := rfl
@[simp] theorem State.putPrev_store (f : Option Shift) (s : State) : (State.putPrev f s).store = s.store := rfl
@[simp] theorem State.putPrev_ic (f : Option Shift) (s : State) : (State.putPrev f s).ic = s.ic := rfl
@[simp] theorem State.putPrev_sign (f : Option Shift) (s : State) : (State.putPrev f s).sign = s.sign := rfl
@[simp] theorem State.putPrev_shift (f : Option Shift) (s : State) : (State.putPrev f s).shift = s.shift := rfl
@[simp] theorem State.putPrev_prev (f : Option Shift) (s : State) : (State.putPrev f s).prev = f := rfl
@[simp] theorem State.putPrev_tot (f : Option Shift) (s : State) : (State.putPrev f s).tot = s.tot := rfl
@[simp] theorem State.putPrev_supply (f : Option Shift) (s : State) : (State.putPrev f s).supply = s.supply := rfl
@[simp] theorem State.putPrev_dash (f : Option Shift) (s : State) : (State.putPrev f s).dash = s.dash := rfl
@[simp] theorem State.putPrev_link (f : Option Shift) (s : State) : (State.putPrev f s).link = s.link := rfl
@[simp] theorem State.putPrev_pending (f : Option Shift) (s : State) : (State.putPrev f s).pending = s.pending := rfl

/-! ### count -/

@[simp] theorem State.count_slots (f : Totalizers → Totalizers) (s : State) : (State.count f s).slots = s.slots := rfl
@[simp] theorem State.count_cal (f : Totalizers → Totalizers) (s : State) : (State.count f s).cal = s.cal := rfl
@[simp] theorem State.count_dist (f : Totalizers → Totalizers) (s : State) : (State.count f s).dist = s.dist := rfl
@[simp] theorem State.count_store (f : Totalizers → Totalizers) (s : State) : (State.count f s).store = s.store := rfl
@[simp] theorem State.count_ic (f : Totalizers → Totalizers) (s : State) : (State.count f s).ic = s.ic := rfl
@[simp] theorem State.count_sign (f : Totalizers → Totalizers) (s : State) : (State.count f s).sign = s.sign := rfl
@[simp] theorem State.count_shift (f : Totalizers → Totalizers) (s : State) : (State.count f s).shift = s.shift := rfl
@[simp] theorem State.count_prev (f : Totalizers → Totalizers) (s : State) : (State.count f s).prev = s.prev := rfl
@[simp] theorem State.count_tot (f : Totalizers → Totalizers) (s : State) : (State.count f s).tot = f s.tot := rfl
@[simp] theorem State.count_supply (f : Totalizers → Totalizers) (s : State) : (State.count f s).supply = s.supply := rfl
@[simp] theorem State.count_dash (f : Totalizers → Totalizers) (s : State) : (State.count f s).dash = s.dash := rfl
@[simp] theorem State.count_link (f : Totalizers → Totalizers) (s : State) : (State.count f s).link = s.link := rfl
@[simp] theorem State.count_pending (f : Totalizers → Totalizers) (s : State) : (State.count f s).pending = s.pending := rfl

/-! ### onSupply -/

@[simp] theorem State.onSupply_slots (f : Supply → Supply) (s : State) : (State.onSupply f s).slots = s.slots := rfl
@[simp] theorem State.onSupply_cal (f : Supply → Supply) (s : State) : (State.onSupply f s).cal = s.cal := rfl
@[simp] theorem State.onSupply_dist (f : Supply → Supply) (s : State) : (State.onSupply f s).dist = s.dist := rfl
@[simp] theorem State.onSupply_store (f : Supply → Supply) (s : State) : (State.onSupply f s).store = s.store := rfl
@[simp] theorem State.onSupply_ic (f : Supply → Supply) (s : State) : (State.onSupply f s).ic = s.ic := rfl
@[simp] theorem State.onSupply_sign (f : Supply → Supply) (s : State) : (State.onSupply f s).sign = s.sign := rfl
@[simp] theorem State.onSupply_shift (f : Supply → Supply) (s : State) : (State.onSupply f s).shift = s.shift := rfl
@[simp] theorem State.onSupply_prev (f : Supply → Supply) (s : State) : (State.onSupply f s).prev = s.prev := rfl
@[simp] theorem State.onSupply_tot (f : Supply → Supply) (s : State) : (State.onSupply f s).tot = s.tot := rfl
@[simp] theorem State.onSupply_supply (f : Supply → Supply) (s : State) : (State.onSupply f s).supply = f s.supply := rfl
@[simp] theorem State.onSupply_dash (f : Supply → Supply) (s : State) : (State.onSupply f s).dash = s.dash := rfl
@[simp] theorem State.onSupply_link (f : Supply → Supply) (s : State) : (State.onSupply f s).link = s.link := rfl
@[simp] theorem State.onSupply_pending (f : Supply → Supply) (s : State) : (State.onSupply f s).pending = s.pending := rfl

/-! ### onDash -/

@[simp] theorem State.onDash_slots (f : DashLink → DashLink) (s : State) : (State.onDash f s).slots = s.slots := rfl
@[simp] theorem State.onDash_cal (f : DashLink → DashLink) (s : State) : (State.onDash f s).cal = s.cal := rfl
@[simp] theorem State.onDash_dist (f : DashLink → DashLink) (s : State) : (State.onDash f s).dist = s.dist := rfl
@[simp] theorem State.onDash_store (f : DashLink → DashLink) (s : State) : (State.onDash f s).store = s.store := rfl
@[simp] theorem State.onDash_ic (f : DashLink → DashLink) (s : State) : (State.onDash f s).ic = s.ic := rfl
@[simp] theorem State.onDash_sign (f : DashLink → DashLink) (s : State) : (State.onDash f s).sign = s.sign := rfl
@[simp] theorem State.onDash_shift (f : DashLink → DashLink) (s : State) : (State.onDash f s).shift = s.shift := rfl
@[simp] theorem State.onDash_prev (f : DashLink → DashLink) (s : State) : (State.onDash f s).prev = s.prev := rfl
@[simp] theorem State.onDash_tot (f : DashLink → DashLink) (s : State) : (State.onDash f s).tot = s.tot := rfl
@[simp] theorem State.onDash_supply (f : DashLink → DashLink) (s : State) : (State.onDash f s).supply = s.supply := rfl
@[simp] theorem State.onDash_dash (f : DashLink → DashLink) (s : State) : (State.onDash f s).dash = f s.dash := rfl
@[simp] theorem State.onDash_link (f : DashLink → DashLink) (s : State) : (State.onDash f s).link = s.link := rfl
@[simp] theorem State.onDash_pending (f : DashLink → DashLink) (s : State) : (State.onDash f s).pending = s.pending := rfl

/-! ### onLink -/

@[simp] theorem State.onLink_slots (f : PartitionLink → PartitionLink) (s : State) : (State.onLink f s).slots = s.slots := rfl
@[simp] theorem State.onLink_cal (f : PartitionLink → PartitionLink) (s : State) : (State.onLink f s).cal = s.cal := rfl
@[simp] theorem State.onLink_dist (f : PartitionLink → PartitionLink) (s : State) : (State.onLink f s).dist = s.dist := rfl
@[simp] theorem State.onLink_store (f : PartitionLink → PartitionLink) (s : State) : (State.onLink f s).store = s.store := rfl
@[simp] theorem State.onLink_ic (f : PartitionLink → PartitionLink) (s : State) : (State.onLink f s).ic = s.ic := rfl
@[simp] theorem State.onLink_sign (f : PartitionLink → PartitionLink) (s : State) : (State.onLink f s).sign = s.sign := rfl
@[simp] theorem State.onLink_shift (f : PartitionLink → PartitionLink) (s : State) : (State.onLink f s).shift = s.shift := rfl
@[simp] theorem State.onLink_prev (f : PartitionLink → PartitionLink) (s : State) : (State.onLink f s).prev = s.prev := rfl
@[simp] theorem State.onLink_tot (f : PartitionLink → PartitionLink) (s : State) : (State.onLink f s).tot = s.tot := rfl
@[simp] theorem State.onLink_supply (f : PartitionLink → PartitionLink) (s : State) : (State.onLink f s).supply = s.supply := rfl
@[simp] theorem State.onLink_dash (f : PartitionLink → PartitionLink) (s : State) : (State.onLink f s).dash = s.dash := rfl
@[simp] theorem State.onLink_link (f : PartitionLink → PartitionLink) (s : State) : (State.onLink f s).link = f s.link := rfl
@[simp] theorem State.onLink_pending (f : PartitionLink → PartitionLink) (s : State) : (State.onLink f s).pending = s.pending := rfl

/-! ### Events -/

@[simp] theorem State.raise_dash (e : Event) (s : State) : (s.raise e).dash = s.dash.raise e := rfl
@[simp] theorem State.raise_slots (e : Event) (s : State) : (s.raise e).slots = s.slots := rfl
@[simp] theorem State.raise_cal (e : Event) (s : State) : (s.raise e).cal = s.cal := rfl
@[simp] theorem State.raise_dist (e : Event) (s : State) : (s.raise e).dist = s.dist := rfl
@[simp] theorem State.raise_store (e : Event) (s : State) : (s.raise e).store = s.store := rfl
@[simp] theorem State.raise_ic (e : Event) (s : State) : (s.raise e).ic = s.ic := rfl
@[simp] theorem State.raise_sign (e : Event) (s : State) : (s.raise e).sign = s.sign := rfl
@[simp] theorem State.raise_shift (e : Event) (s : State) : (s.raise e).shift = s.shift := rfl
@[simp] theorem State.raise_prev (e : Event) (s : State) : (s.raise e).prev = s.prev := rfl
@[simp] theorem State.raise_tot (e : Event) (s : State) : (s.raise e).tot = s.tot := rfl
@[simp] theorem State.raise_supply (e : Event) (s : State) : (s.raise e).supply = s.supply := rfl
@[simp] theorem State.raise_link (e : Event) (s : State) : (s.raise e).link = s.link := rfl
@[simp] theorem State.raise_pending (e : Event) (s : State) : (s.raise e).pending = s.pending := rfl
@[simp] theorem State.raiseIf_slots (b : Bool) (e : Event) (s : State) : (s.raiseIf b e).slots = s.slots := by
  cases b <;> rfl
@[simp] theorem State.raiseIf_cal (b : Bool) (e : Event) (s : State) : (s.raiseIf b e).cal = s.cal := by
  cases b <;> rfl
@[simp] theorem State.raiseIf_dist (b : Bool) (e : Event) (s : State) : (s.raiseIf b e).dist = s.dist := by
  cases b <;> rfl
@[simp] theorem State.raiseIf_store (b : Bool) (e : Event) (s : State) : (s.raiseIf b e).store = s.store := by
  cases b <;> rfl
@[simp] theorem State.raiseIf_ic (b : Bool) (e : Event) (s : State) : (s.raiseIf b e).ic = s.ic := by
  cases b <;> rfl
@[simp] theorem State.raiseIf_sign (b : Bool) (e : Event) (s : State) : (s.raiseIf b e).sign = s.sign := by
  cases b <;> rfl
@[simp] theorem State.raiseIf_shift (b : Bool) (e : Event) (s : State) : (s.raiseIf b e).shift = s.shift := by
  cases b <;> rfl
@[simp] theorem State.raiseIf_prev (b : Bool) (e : Event) (s : State) : (s.raiseIf b e).prev = s.prev := by
  cases b <;> rfl
@[simp] theorem State.raiseIf_tot (b : Bool) (e : Event) (s : State) : (s.raiseIf b e).tot = s.tot := by
  cases b <;> rfl
@[simp] theorem State.raiseIf_supply (b : Bool) (e : Event) (s : State) : (s.raiseIf b e).supply = s.supply := by
  cases b <;> rfl
@[simp] theorem State.raiseIf_link (b : Bool) (e : Event) (s : State) : (s.raiseIf b e).link = s.link := by
  cases b <;> rfl
@[simp] theorem State.raiseIf_pending (b : Bool) (e : Event) (s : State) : (s.raiseIf b e).pending = s.pending := by
  cases b <;> rfl

@[simp] theorem DashLink.raise_frame (d : DashLink) (e : Event) : (d.raise e).frame = d.frame := rfl
@[simp] theorem DashLink.raise_counted (d : DashLink) (e : Event) : (d.raise e).counted = d.counted := rfl
@[simp] theorem DashLink.raise_watch (d : DashLink) (e : Event) : (d.raise e).watch = d.watch := rfl
@[simp] theorem DashLink.raise_mask (d : DashLink) (e : Event) : (d.raise e).mask = d.mask := rfl
@[simp] theorem DashLink.raise_drstLow (d : DashLink) (e : Event) : (d.raise e).drstLow = d.drstLow := rfl

/-! ### Slots -/

@[simp] theorem Four.get_set_same {α : Type} (q : Four α) (i : Fin 4) (x : α) : (q.set i x).get i = x := by
  fin_cases i <;> rfl

theorem Four.get_set_other {α : Type} (q : Four α) {i j : Fin 4} (x : α) (h : j ≠ i) :
    (q.set i x).get j = q.get j := by
  fin_cases i <;> fin_cases j <;> first | rfl | exact absurd rfl h

theorem Four.set_get_same {α : Type} (q : Four α) (i : Fin 4) : q.set i (q.get i) = q := by
  fin_cases i <;> rfl

/-- Four slots that agree at every number are equal. -/
theorem Four.ext_get {α : Type} (p q : Four α) (h : ∀ i, p.get i = q.get i) : p = q := by
  cases p; cases q
  have h0 := h 0; have h1 := h 1; have h2 := h 2; have h3 := h 3
  simp_all [Four.get]

@[simp] theorem State.putSlot_slot_same (i : Fin 4) (t : Option Trip) (s : State) : (s.putSlot i t).slot i = t :=
  Four.get_set_same s.slots i t

theorem State.putSlot_slot_other {i j : Fin 4} (t : Option Trip) (s : State) (h : j ≠ i) :
    (s.putSlot i t).slot j = s.slot j := Four.get_set_other s.slots t h

/-- Reading a slot after one slot was replaced. -/
theorem State.putSlot_slot (i j : Fin 4) (t : Option Trip) (s : State) :
    (s.putSlot i t).slot j = if j = i then t else s.slot j := by
  by_cases h : j = i
  · subst h; simp
  · simp [h, State.putSlot_slot_other t s h]

/-- Reading a slot after one slot's record was changed. -/
theorem State.modSlot_slot (i j : Fin 4) (f : Trip → Trip) (s : State) :
    (s.modSlot i f).slot j = if j = i then (s.slot i).map f else s.slot j :=
  State.putSlot_slot i j _ s

@[simp] theorem State.putSlot_cal (i : Fin 4) (t : Option Trip) (s : State) : (s.putSlot i t).cal = s.cal := rfl
@[simp] theorem State.putSlot_dist (i : Fin 4) (t : Option Trip) (s : State) : (s.putSlot i t).dist = s.dist := rfl
@[simp] theorem State.putSlot_store (i : Fin 4) (t : Option Trip) (s : State) : (s.putSlot i t).store = s.store := rfl
@[simp] theorem State.putSlot_ic (i : Fin 4) (t : Option Trip) (s : State) : (s.putSlot i t).ic = s.ic := rfl
@[simp] theorem State.putSlot_sign (i : Fin 4) (t : Option Trip) (s : State) : (s.putSlot i t).sign = s.sign := rfl
@[simp] theorem State.putSlot_shift (i : Fin 4) (t : Option Trip) (s : State) : (s.putSlot i t).shift = s.shift := rfl
@[simp] theorem State.putSlot_prev (i : Fin 4) (t : Option Trip) (s : State) : (s.putSlot i t).prev = s.prev := rfl
@[simp] theorem State.putSlot_tot (i : Fin 4) (t : Option Trip) (s : State) : (s.putSlot i t).tot = s.tot := rfl
@[simp] theorem State.putSlot_supply (i : Fin 4) (t : Option Trip) (s : State) : (s.putSlot i t).supply = s.supply := rfl
@[simp] theorem State.putSlot_dash (i : Fin 4) (t : Option Trip) (s : State) : (s.putSlot i t).dash = s.dash := rfl
@[simp] theorem State.putSlot_link (i : Fin 4) (t : Option Trip) (s : State) : (s.putSlot i t).link = s.link := rfl
@[simp] theorem State.putSlot_pending (i : Fin 4) (t : Option Trip) (s : State) : (s.putSlot i t).pending = s.pending := rfl
@[simp] theorem State.modSlot_cal (i : Fin 4) (t : Trip → Trip) (s : State) : (s.modSlot i t).cal = s.cal := rfl
@[simp] theorem State.modSlot_dist (i : Fin 4) (t : Trip → Trip) (s : State) : (s.modSlot i t).dist = s.dist := rfl
@[simp] theorem State.modSlot_store (i : Fin 4) (t : Trip → Trip) (s : State) : (s.modSlot i t).store = s.store := rfl
@[simp] theorem State.modSlot_ic (i : Fin 4) (t : Trip → Trip) (s : State) : (s.modSlot i t).ic = s.ic := rfl
@[simp] theorem State.modSlot_sign (i : Fin 4) (t : Trip → Trip) (s : State) : (s.modSlot i t).sign = s.sign := rfl
@[simp] theorem State.modSlot_shift (i : Fin 4) (t : Trip → Trip) (s : State) : (s.modSlot i t).shift = s.shift := rfl
@[simp] theorem State.modSlot_prev (i : Fin 4) (t : Trip → Trip) (s : State) : (s.modSlot i t).prev = s.prev := rfl
@[simp] theorem State.modSlot_tot (i : Fin 4) (t : Trip → Trip) (s : State) : (s.modSlot i t).tot = s.tot := rfl
@[simp] theorem State.modSlot_supply (i : Fin 4) (t : Trip → Trip) (s : State) : (s.modSlot i t).supply = s.supply := rfl
@[simp] theorem State.modSlot_dash (i : Fin 4) (t : Trip → Trip) (s : State) : (s.modSlot i t).dash = s.dash := rfl
@[simp] theorem State.modSlot_link (i : Fin 4) (t : Trip → Trip) (s : State) : (s.modSlot i t).link = s.link := rfl
@[simp] theorem State.modSlot_pending (i : Fin 4) (t : Trip → Trip) (s : State) : (s.modSlot i t).pending = s.pending := rfl

/-- A slot is read from the slots alone. -/
theorem State.slot_congr {s t : State} (h : s.slots = t.slots) (i : Fin 4) : s.slot i = t.slot i := by
  simp [State.slot, h]

/-! ### Stations -/

@[simp] theorem Sides.get_set_same {α : Type} (p : Sides α) (x : Station) (v : α) : (p.set x v).get x = v := by
  cases x <;> rfl

theorem Sides.get_set_other {α : Type} (p : Sides α) {x y : Station} (v : α) (h : y ≠ x) :
    (p.set x v).get y = p.get y := by
  cases x <;> cases y <;> first | rfl | exact absurd rfl h

@[simp] theorem Station.other_other (x : Sys2Proof.Station) : x.other.other = x := by cases x <;> rfl

theorem Station.other_ne (x : Sys2Proof.Station) : x.other ≠ x := by cases x <;> decide

end Sys2Proof.Machine
end

