-- ==== Sys2Proof/Laws/Frames.lean ====
section
/-! SUPPORT. The frame of each operation the meanings share: the fields of the state it leaves as they were, one lemma
per field, so that no later proof unfolds the operation to see what it does not touch. -/

namespace Sys2Proof.Machine

/-! ### post -/

@[simp] theorem State.post_slots (x : Station) (n : Notice) (s : State) : (s.post x n).slots = s.slots := rfl
@[simp] theorem State.post_cal (x : Station) (n : Notice) (s : State) : (s.post x n).cal = s.cal := rfl
@[simp] theorem State.post_dist (x : Station) (n : Notice) (s : State) : (s.post x n).dist = s.dist := rfl
@[simp] theorem State.post_store (x : Station) (n : Notice) (s : State) : (s.post x n).store = s.store := rfl
@[simp] theorem State.post_ic (x : Station) (n : Notice) (s : State) : (s.post x n).ic = s.ic := rfl
@[simp] theorem State.post_sign (x : Station) (n : Notice) (s : State) : (s.post x n).sign = s.sign := rfl
@[simp] theorem State.post_shift (x : Station) (n : Notice) (s : State) : (s.post x n).shift = s.shift := rfl
@[simp] theorem State.post_prev (x : Station) (n : Notice) (s : State) : (s.post x n).prev = s.prev := rfl
@[simp] theorem State.post_tot (x : Station) (n : Notice) (s : State) : (s.post x n).tot = s.tot := rfl
@[simp] theorem State.post_supply (x : Station) (n : Notice) (s : State) : (s.post x n).supply = s.supply := rfl
@[simp] theorem State.post_dash (x : Station) (n : Notice) (s : State) : (s.post x n).dash = s.dash := rfl
@[simp] theorem State.post_pending (x : Station) (n : Notice) (s : State) : (s.post x n).pending = s.pending := rfl

/-! ### postAll -/

@[simp] theorem State.postAll_slots (set : StationSet) (n : Notice) (s : State) : (s.postAll set n).slots = s.slots := by
  cases set <;> rfl
@[simp] theorem State.postAll_cal (set : StationSet) (n : Notice) (s : State) : (s.postAll set n).cal = s.cal := by
  cases set <;> rfl
@[simp] theorem State.postAll_dist (set : StationSet) (n : Notice) (s : State) : (s.postAll set n).dist = s.dist := by
  cases set <;> rfl
@[simp] theorem State.postAll_store (set : StationSet) (n : Notice) (s : State) : (s.postAll set n).store = s.store := by
  cases set <;> rfl
@[simp] theorem State.postAll_ic (set : StationSet) (n : Notice) (s : State) : (s.postAll set n).ic = s.ic := by
  cases set <;> rfl
@[simp] theorem State.postAll_sign (set : StationSet) (n : Notice) (s : State) : (s.postAll set n).sign = s.sign := by
  cases set <;> rfl
@[simp] theorem State.postAll_shift (set : StationSet) (n : Notice) (s : State) : (s.postAll set n).shift = s.shift := by
  cases set <;> rfl
@[simp] theorem State.postAll_prev (set : StationSet) (n : Notice) (s : State) : (s.postAll set n).prev = s.prev := by
  cases set <;> rfl
@[simp] theorem State.postAll_tot (set : StationSet) (n : Notice) (s : State) : (s.postAll set n).tot = s.tot := by
  cases set <;> rfl
@[simp] theorem State.postAll_supply (set : StationSet) (n : Notice) (s : State) : (s.postAll set n).supply = s.supply := by
  cases set <;> rfl
@[simp] theorem State.postAll_dash (set : StationSet) (n : Notice) (s : State) : (s.postAll set n).dash = s.dash := by
  cases set <;> rfl
@[simp] theorem State.postAll_pending (set : StationSet) (n : Notice) (s : State) : (s.postAll set n).pending = s.pending := by
  cases set <;> rfl

/-! ### postDue -/

@[simp] theorem State.postDue_slots (t : Trip) (s : State) : (s.postDue t).slots = s.slots := by
  simp [State.postDue]
@[simp] theorem State.postDue_cal (t : Trip) (s : State) : (s.postDue t).cal = s.cal := by
  simp [State.postDue]
@[simp] theorem State.postDue_dist (t : Trip) (s : State) : (s.postDue t).dist = s.dist := by
  simp [State.postDue]
@[simp] theorem State.postDue_store (t : Trip) (s : State) : (s.postDue t).store = s.store := by
  simp [State.postDue]
@[simp] theorem State.postDue_ic (t : Trip) (s : State) : (s.postDue t).ic = s.ic := by
  simp [State.postDue]
@[simp] theorem State.postDue_sign (t : Trip) (s : State) : (s.postDue t).sign = s.sign := by
  simp [State.postDue]
@[simp] theorem State.postDue_shift (t : Trip) (s : State) : (s.postDue t).shift = s.shift := by
  simp [State.postDue]
@[simp] theorem State.postDue_prev (t : Trip) (s : State) : (s.postDue t).prev = s.prev := by
  simp [State.postDue]
@[simp] theorem State.postDue_tot (t : Trip) (s : State) : (s.postDue t).tot = s.tot := by
  simp [State.postDue]
@[simp] theorem State.postDue_supply (t : Trip) (s : State) : (s.postDue t).supply = s.supply := by
  simp [State.postDue]
@[simp] theorem State.postDue_dash (t : Trip) (s : State) : (s.postDue t).dash = s.dash := by
  simp [State.postDue]
@[simp] theorem State.postDue_pending (t : Trip) (s : State) : (s.postDue t).pending = s.pending := by
  simp [State.postDue]

/-! ### repost -/

@[simp] theorem State.repost_slots (x : Station) (s : State) : (s.repost x).slots = s.slots := by
  unfold State.repost; split <;> rfl
@[simp] theorem State.repost_cal (x : Station) (s : State) : (s.repost x).cal = s.cal := by
  unfold State.repost; split <;> rfl
@[simp] theorem State.repost_dist (x : Station) (s : State) : (s.repost x).dist = s.dist := by
  unfold State.repost; split <;> rfl
@[simp] theorem State.repost_store (x : Station) (s : State) : (s.repost x).store = s.store := by
  unfold State.repost; split <;> rfl
@[simp] theorem State.repost_ic (x : Station) (s : State) : (s.repost x).ic = s.ic := by
  unfold State.repost; split <;> rfl
@[simp] theorem State.repost_sign (x : Station) (s : State) : (s.repost x).sign = s.sign := by
  unfold State.repost; split <;> rfl
@[simp] theorem State.repost_shift (x : Station) (s : State) : (s.repost x).shift = s.shift := by
  unfold State.repost; split <;> rfl
@[simp] theorem State.repost_prev (x : Station) (s : State) : (s.repost x).prev = s.prev := by
  unfold State.repost; split <;> rfl
@[simp] theorem State.repost_tot (x : Station) (s : State) : (s.repost x).tot = s.tot := by
  unfold State.repost; split <;> rfl
@[simp] theorem State.repost_supply (x : Station) (s : State) : (s.repost x).supply = s.supply := by
  unfold State.repost; split <;> rfl
@[simp] theorem State.repost_dash (x : Station) (s : State) : (s.repost x).dash = s.dash := by
  unfold State.repost; split <;> rfl
@[simp] theorem State.repost_pending (x : Station) (s : State) : (s.repost x).pending = s.pending := by
  unfold State.repost; split <;> rfl

/-! ### repostBoth -/

@[simp] theorem State.repostBoth_slots (s : State) : (s.repostBoth).slots = s.slots := by
  simp [State.repostBoth]
@[simp] theorem State.repostBoth_cal (s : State) : (s.repostBoth).cal = s.cal := by
  simp [State.repostBoth]
@[simp] theorem State.repostBoth_dist (s : State) : (s.repostBoth).dist = s.dist := by
  simp [State.repostBoth]
@[simp] theorem State.repostBoth_store (s : State) : (s.repostBoth).store = s.store := by
  simp [State.repostBoth]
@[simp] theorem State.repostBoth_ic (s : State) : (s.repostBoth).ic = s.ic := by
  simp [State.repostBoth]
@[simp] theorem State.repostBoth_sign (s : State) : (s.repostBoth).sign = s.sign := by
  simp [State.repostBoth]
@[simp] theorem State.repostBoth_shift (s : State) : (s.repostBoth).shift = s.shift := by
  simp [State.repostBoth]
@[simp] theorem State.repostBoth_prev (s : State) : (s.repostBoth).prev = s.prev := by
  simp [State.repostBoth]
@[simp] theorem State.repostBoth_tot (s : State) : (s.repostBoth).tot = s.tot := by
  simp [State.repostBoth]
@[simp] theorem State.repostBoth_supply (s : State) : (s.repostBoth).supply = s.supply := by
  simp [State.repostBoth]
@[simp] theorem State.repostBoth_dash (s : State) : (s.repostBoth).dash = s.dash := by
  simp [State.repostBoth]
@[simp] theorem State.repostBoth_pending (s : State) : (s.repostBoth).pending = s.pending := by
  simp [State.repostBoth]

/-! ### followSign -/

@[simp] theorem State.followSign_slots (s : State) : (s.followSign).slots = s.slots := by
  unfold State.followSign; split <;> rfl
@[simp] theorem State.followSign_cal (s : State) : (s.followSign).cal = s.cal := by
  unfold State.followSign; split <;> rfl
@[simp] theorem State.followSign_dist (s : State) : (s.followSign).dist = s.dist := by
  unfold State.followSign; split <;> rfl
@[simp] theorem State.followSign_store (s : State) : (s.followSign).store = s.store := by
  unfold State.followSign; split <;> rfl
@[simp] theorem State.followSign_ic (s : State) : (s.followSign).ic = s.ic := by
  unfold State.followSign; split <;> rfl
@[simp] theorem State.followSign_shift (s : State) : (s.followSign).shift = s.shift := by
  unfold State.followSign; split <;> rfl
@[simp] theorem State.followSign_prev (s : State) : (s.followSign).prev = s.prev := by
  unfold State.followSign; split <;> rfl
@[simp] theorem State.followSign_tot (s : State) : (s.followSign).tot = s.tot := by
  unfold State.followSign; split <;> rfl
@[simp] theorem State.followSign_supply (s : State) : (s.followSign).supply = s.supply := by
  unfold State.followSign; split <;> rfl
@[simp] theorem State.followSign_dash (s : State) : (s.followSign).dash = s.dash := by
  unfold State.followSign; split <;> rfl
@[simp] theorem State.followSign_link (s : State) : (s.followSign).link = s.link := by
  unfold State.followSign; split <;> rfl
@[simp] theorem State.followSign_pending (s : State) : (s.followSign).pending = s.pending := by
  unfold State.followSign; split <;> rfl

/-! ### sampleLamps -/

@[simp] theorem State.sampleLamps_slots (w : Lamps Bool) (s : State) : (s.sampleLamps w).slots = s.slots := by
  simp [State.sampleLamps]
@[simp] theorem State.sampleLamps_cal (w : Lamps Bool) (s : State) : (s.sampleLamps w).cal = s.cal := by
  simp [State.sampleLamps]
@[simp] theorem State.sampleLamps_dist (w : Lamps Bool) (s : State) : (s.sampleLamps w).dist = s.dist := by
  simp [State.sampleLamps]
@[simp] theorem State.sampleLamps_store (w : Lamps Bool) (s : State) : (s.sampleLamps w).store = s.store := by
  simp [State.sampleLamps]
@[simp] theorem State.sampleLamps_ic (w : Lamps Bool) (s : State) : (s.sampleLamps w).ic = s.ic := by
  simp [State.sampleLamps]
@[simp] theorem State.sampleLamps_prev (w : Lamps Bool) (s : State) : (s.sampleLamps w).prev = s.prev := by
  simp [State.sampleLamps]
@[simp] theorem State.sampleLamps_tot (w : Lamps Bool) (s : State) : (s.sampleLamps w).tot = s.tot := by
  simp [State.sampleLamps]
@[simp] theorem State.sampleLamps_supply (w : Lamps Bool) (s : State) : (s.sampleLamps w).supply = s.supply := by
  simp [State.sampleLamps]
@[simp] theorem State.sampleLamps_link (w : Lamps Bool) (s : State) : (s.sampleLamps w).link = s.link := by
  simp [State.sampleLamps]
@[simp] theorem State.sampleLamps_pending (w : Lamps Bool) (s : State) : (s.sampleLamps w).pending = s.pending := by
  simp [State.sampleLamps]

/-! ### accept -/

@[simp] theorem State.accept_slots (x : Station) (k : Byte) (t : Trip) (s : State) : (s.accept x k t).slots = s.slots := rfl
@[simp] theorem State.accept_cal (x : Station) (k : Byte) (t : Trip) (s : State) : (s.accept x k t).cal = s.cal := rfl
@[simp] theorem State.accept_dist (x : Station) (k : Byte) (t : Trip) (s : State) : (s.accept x k t).dist = s.dist := rfl
@[simp] theorem State.accept_store (x : Station) (k : Byte) (t : Trip) (s : State) : (s.accept x k t).store = s.store := rfl
@[simp] theorem State.accept_ic (x : Station) (k : Byte) (t : Trip) (s : State) : (s.accept x k t).ic = s.ic := rfl
@[simp] theorem State.accept_sign (x : Station) (k : Byte) (t : Trip) (s : State) : (s.accept x k t).sign = s.sign := rfl
@[simp] theorem State.accept_shift (x : Station) (k : Byte) (t : Trip) (s : State) : (s.accept x k t).shift = s.shift := rfl
@[simp] theorem State.accept_prev (x : Station) (k : Byte) (t : Trip) (s : State) : (s.accept x k t).prev = s.prev := rfl
@[simp] theorem State.accept_tot (x : Station) (k : Byte) (t : Trip) (s : State) : (s.accept x k t).tot = s.tot := rfl
@[simp] theorem State.accept_supply (x : Station) (k : Byte) (t : Trip) (s : State) : (s.accept x k t).supply = s.supply := rfl
@[simp] theorem State.accept_dash (x : Station) (k : Byte) (t : Trip) (s : State) : (s.accept x k t).dash = s.dash := rfl
@[simp] theorem State.accept_pending (x : Station) (k : Byte) (t : Trip) (s : State) : (s.accept x k t).pending = s.pending := rfl

/-! ### deny -/

@[simp] theorem State.deny_slots (x : Station) (k : Byte) (r : Reason) (t : Option Trip) (s : State) : (s.deny x k r t).slots = s.slots := by
  cases t <;> rfl
@[simp] theorem State.deny_cal (x : Station) (k : Byte) (r : Reason) (t : Option Trip) (s : State) : (s.deny x k r t).cal = s.cal := by
  cases t <;> rfl
@[simp] theorem State.deny_dist (x : Station) (k : Byte) (r : Reason) (t : Option Trip) (s : State) : (s.deny x k r t).dist = s.dist := by
  cases t <;> rfl
@[simp] theorem State.deny_store (x : Station) (k : Byte) (r : Reason) (t : Option Trip) (s : State) : (s.deny x k r t).store = s.store := by
  cases t <;> rfl
@[simp] theorem State.deny_ic (x : Station) (k : Byte) (r : Reason) (t : Option Trip) (s : State) : (s.deny x k r t).ic = s.ic := by
  cases t <;> rfl
@[simp] theorem State.deny_sign (x : Station) (k : Byte) (r : Reason) (t : Option Trip) (s : State) : (s.deny x k r t).sign = s.sign := by
  cases t <;> rfl
@[simp] theorem State.deny_shift (x : Station) (k : Byte) (r : Reason) (t : Option Trip) (s : State) : (s.deny x k r t).shift = s.shift := by
  cases t <;> rfl
@[simp] theorem State.deny_prev (x : Station) (k : Byte) (r : Reason) (t : Option Trip) (s : State) : (s.deny x k r t).prev = s.prev := by
  cases t <;> rfl
@[simp] theorem State.deny_tot (x : Station) (k : Byte) (r : Reason) (t : Option Trip) (s : State) : (s.deny x k r t).tot = s.tot := by
  cases t <;> rfl
@[simp] theorem State.deny_supply (x : Station) (k : Byte) (r : Reason) (t : Option Trip) (s : State) : (s.deny x k r t).supply = s.supply := by
  cases t <;> rfl
@[simp] theorem State.deny_dash (x : Station) (k : Byte) (r : Reason) (t : Option Trip) (s : State) : (s.deny x k r t).dash = s.dash := by
  cases t <;> rfl
@[simp] theorem State.deny_pending (x : Station) (k : Byte) (r : Reason) (t : Option Trip) (s : State) : (s.deny x k r t).pending = s.pending := by
  cases t <;> rfl

/-! ### answerFrame -/

@[simp] theorem State.answerFrame_slots (n : Nat) (r : Reply) (s : State) : (State.answerFrame n r s).slots = s.slots := rfl
@[simp] theorem State.answerFrame_cal (n : Nat) (r : Reply) (s : State) : (State.answerFrame n r s).cal = s.cal := rfl
@[simp] theorem State.answerFrame_dist (n : Nat) (r : Reply) (s : State) : (State.answerFrame n r s).dist = s.dist := rfl
@[simp] theorem State.answerFrame_store (n : Nat) (r : Reply) (s : State) : (State.answerFrame n r s).store = s.store := rfl
@[simp] theorem State.answerFrame_ic (n : Nat) (r : Reply) (s : State) : (State.answerFrame n r s).ic = s.ic := rfl
@[simp] theorem State.answerFrame_sign (n : Nat) (r : Reply) (s : State) : (State.answerFrame n r s).sign = s.sign := rfl
@[simp] theorem State.answerFrame_shift (n : Nat) (r : Reply) (s : State) : (State.answerFrame n r s).shift = s.shift := rfl
@[simp] theorem State.answerFrame_prev (n : Nat) (r : Reply) (s : State) : (State.answerFrame n r s).prev = s.prev := rfl
@[simp] theorem State.answerFrame_tot (n : Nat) (r : Reply) (s : State) : (State.answerFrame n r s).tot = s.tot := rfl
@[simp] theorem State.answerFrame_supply (n : Nat) (r : Reply) (s : State) : (State.answerFrame n r s).supply = s.supply := rfl
@[simp] theorem State.answerFrame_link (n : Nat) (r : Reply) (s : State) : (State.answerFrame n r s).link = s.link := rfl
@[simp] theorem State.answerFrame_pending (n : Nat) (r : Reply) (s : State) : (State.answerFrame n r s).pending = s.pending := rfl

/-! ### holdWarning -/

@[simp] theorem State.holdWarning_cal (i : Fin 4) (s : State) : (s.holdWarning i).cal = s.cal := by
  unfold State.holdWarning; repeat' split
  all_goals simp
@[simp] theorem State.holdWarning_dist (i : Fin 4) (s : State) : (s.holdWarning i).dist = s.dist := by
  unfold State.holdWarning; repeat' split
  all_goals simp
@[simp] theorem State.holdWarning_store (i : Fin 4) (s : State) : (s.holdWarning i).store = s.store := by
  unfold State.holdWarning; repeat' split
  all_goals simp
@[simp] theorem State.holdWarning_ic (i : Fin 4) (s : State) : (s.holdWarning i).ic = s.ic := by
  unfold State.holdWarning; repeat' split
  all_goals simp
@[simp] theorem State.holdWarning_sign (i : Fin 4) (s : State) : (s.holdWarning i).sign = s.sign := by
  unfold State.holdWarning; repeat' split
  all_goals simp
@[simp] theorem State.holdWarning_shift (i : Fin 4) (s : State) : (s.holdWarning i).shift = s.shift := by
  unfold State.holdWarning; repeat' split
  all_goals simp
@[simp] theorem State.holdWarning_prev (i : Fin 4) (s : State) : (s.holdWarning i).prev = s.prev := by
  unfold State.holdWarning; repeat' split
  all_goals simp
@[simp] theorem State.holdWarning_tot (i : Fin 4) (s : State) : (s.holdWarning i).tot = s.tot := by
  unfold State.holdWarning; repeat' split
  all_goals simp
@[simp] theorem State.holdWarning_supply (i : Fin 4) (s : State) : (s.holdWarning i).supply = s.supply := by
  unfold State.holdWarning; repeat' split
  all_goals simp
@[simp] theorem State.holdWarning_pending (i : Fin 4) (s : State) : (s.holdWarning i).pending = s.pending := by
  unfold State.holdWarning; repeat' split
  all_goals simp

/-! ### engine -/

@[simp] theorem State.engine_cal (i : Fin 4) (a b : Trip) (s : State) : (s.engine i a b).cal = s.cal := by
  unfold State.engine; split <;> simp
@[simp] theorem State.engine_dist (i : Fin 4) (a b : Trip) (s : State) : (s.engine i a b).dist = s.dist := by
  unfold State.engine; split <;> simp
@[simp] theorem State.engine_store (i : Fin 4) (a b : Trip) (s : State) : (s.engine i a b).store = s.store := by
  unfold State.engine; split <;> simp
@[simp] theorem State.engine_ic (i : Fin 4) (a b : Trip) (s : State) : (s.engine i a b).ic = s.ic := by
  unfold State.engine; split <;> simp
@[simp] theorem State.engine_sign (i : Fin 4) (a b : Trip) (s : State) : (s.engine i a b).sign = s.sign := by
  unfold State.engine; split <;> simp
@[simp] theorem State.engine_shift (i : Fin 4) (a b : Trip) (s : State) : (s.engine i a b).shift = s.shift := by
  unfold State.engine; split <;> simp
@[simp] theorem State.engine_prev (i : Fin 4) (a b : Trip) (s : State) : (s.engine i a b).prev = s.prev := by
  unfold State.engine; split <;> simp
@[simp] theorem State.engine_tot (i : Fin 4) (a b : Trip) (s : State) : (s.engine i a b).tot = s.tot := by
  unfold State.engine; split <;> simp
@[simp] theorem State.engine_supply (i : Fin 4) (a b : Trip) (s : State) : (s.engine i a b).supply = s.supply := by
  unfold State.engine; split <;> simp
@[simp] theorem State.engine_pending (i : Fin 4) (a b : Trip) (s : State) : (s.engine i a b).pending = s.pending := by
  unfold State.engine; split <;> simp

/-! ### settleSlot -/

@[simp] theorem State.settleSlot_cal (k : Nat) (i : Fin 4) (s : State) : (s.settleSlot k i).cal = s.cal := by
  unfold State.settleSlot; repeat' split
  all_goals simp
@[simp] theorem State.settleSlot_dist (k : Nat) (i : Fin 4) (s : State) : (s.settleSlot k i).dist = s.dist := by
  unfold State.settleSlot; repeat' split
  all_goals simp
@[simp] theorem State.settleSlot_store (k : Nat) (i : Fin 4) (s : State) : (s.settleSlot k i).store = s.store := by
  unfold State.settleSlot; repeat' split
  all_goals simp
@[simp] theorem State.settleSlot_ic (k : Nat) (i : Fin 4) (s : State) : (s.settleSlot k i).ic = s.ic := by
  unfold State.settleSlot; repeat' split
  all_goals simp
@[simp] theorem State.settleSlot_sign (k : Nat) (i : Fin 4) (s : State) : (s.settleSlot k i).sign = s.sign := by
  unfold State.settleSlot; repeat' split
  all_goals simp
@[simp] theorem State.settleSlot_shift (k : Nat) (i : Fin 4) (s : State) : (s.settleSlot k i).shift = s.shift := by
  unfold State.settleSlot; repeat' split
  all_goals simp
@[simp] theorem State.settleSlot_prev (k : Nat) (i : Fin 4) (s : State) : (s.settleSlot k i).prev = s.prev := by
  unfold State.settleSlot; repeat' split
  all_goals simp
@[simp] theorem State.settleSlot_tot (k : Nat) (i : Fin 4) (s : State) : (s.settleSlot k i).tot = s.tot := by
  unfold State.settleSlot; repeat' split
  all_goals simp
@[simp] theorem State.settleSlot_supply (k : Nat) (i : Fin 4) (s : State) : (s.settleSlot k i).supply = s.supply := by
  unfold State.settleSlot; repeat' split
  all_goals simp
@[simp] theorem State.settleSlot_pending (k : Nat) (i : Fin 4) (s : State) : (s.settleSlot k i).pending = s.pending := by
  unfold State.settleSlot; repeat' split
  all_goals simp

/-! ### creditSlot -/

@[simp] theorem State.creditSlot_cal (k : Nat) (i : Fin 4) (s : State) : (s.creditSlot k i).cal = s.cal := by
  unfold State.creditSlot; repeat' split
  all_goals simp
@[simp] theorem State.creditSlot_dist (k : Nat) (i : Fin 4) (s : State) : (s.creditSlot k i).dist = s.dist := by
  unfold State.creditSlot; repeat' split
  all_goals simp
@[simp] theorem State.creditSlot_store (k : Nat) (i : Fin 4) (s : State) : (s.creditSlot k i).store = s.store := by
  unfold State.creditSlot; repeat' split
  all_goals simp
@[simp] theorem State.creditSlot_ic (k : Nat) (i : Fin 4) (s : State) : (s.creditSlot k i).ic = s.ic := by
  unfold State.creditSlot; repeat' split
  all_goals simp
@[simp] theorem State.creditSlot_sign (k : Nat) (i : Fin 4) (s : State) : (s.creditSlot k i).sign = s.sign := by
  unfold State.creditSlot; repeat' split
  all_goals simp
@[simp] theorem State.creditSlot_shift (k : Nat) (i : Fin 4) (s : State) : (s.creditSlot k i).shift = s.shift := by
  unfold State.creditSlot; repeat' split
  all_goals simp
@[simp] theorem State.creditSlot_prev (k : Nat) (i : Fin 4) (s : State) : (s.creditSlot k i).prev = s.prev := by
  unfold State.creditSlot; repeat' split
  all_goals simp
@[simp] theorem State.creditSlot_tot (k : Nat) (i : Fin 4) (s : State) : (s.creditSlot k i).tot = s.tot := by
  unfold State.creditSlot; repeat' split
  all_goals simp
@[simp] theorem State.creditSlot_supply (k : Nat) (i : Fin 4) (s : State) : (s.creditSlot k i).supply = s.supply := by
  unfold State.creditSlot; repeat' split
  all_goals simp
@[simp] theorem State.creditSlot_pending (k : Nat) (i : Fin 4) (s : State) : (s.creditSlot k i).pending = s.pending := by
  unfold State.creditSlot; repeat' split
  all_goals simp

/-! ### fareSecond -/

@[simp] theorem State.fareSecond_cal (s : State) : (s.fareSecond).cal = s.cal := by
  unfold State.fareSecond; split <;> simp [forSlots]
@[simp] theorem State.fareSecond_dist (s : State) : (s.fareSecond).dist = s.dist := by
  unfold State.fareSecond; split <;> simp [forSlots]
@[simp] theorem State.fareSecond_store (s : State) : (s.fareSecond).store = s.store := by
  unfold State.fareSecond; split <;> simp [forSlots]
@[simp] theorem State.fareSecond_ic (s : State) : (s.fareSecond).ic = s.ic := by
  unfold State.fareSecond; split <;> simp [forSlots]
@[simp] theorem State.fareSecond_sign (s : State) : (s.fareSecond).sign = s.sign := by
  unfold State.fareSecond; split <;> simp [forSlots]
@[simp] theorem State.fareSecond_prev (s : State) : (s.fareSecond).prev = s.prev := by
  unfold State.fareSecond; split <;> simp [forSlots]
@[simp] theorem State.fareSecond_tot (s : State) : (s.fareSecond).tot = s.tot := by
  unfold State.fareSecond; split <;> simp [forSlots]
@[simp] theorem State.fareSecond_supply (s : State) : (s.fareSecond).supply = s.supply := by
  unfold State.fareSecond; split <;> simp [forSlots]
@[simp] theorem State.fareSecond_pending (s : State) : (s.fareSecond).pending = s.pending := by
  unfold State.fareSecond; split <;> simp [forSlots]

/-! ### switchSlot -/

@[simp] theorem State.switchSlot_cal (n : Nat) (i : Fin 4) (s : State) : (s.switchSlot n i).cal = s.cal := rfl
@[simp] theorem State.switchSlot_dist (n : Nat) (i : Fin 4) (s : State) : (s.switchSlot n i).dist = s.dist := rfl
@[simp] theorem State.switchSlot_store (n : Nat) (i : Fin 4) (s : State) : (s.switchSlot n i).store = s.store := rfl
@[simp] theorem State.switchSlot_ic (n : Nat) (i : Fin 4) (s : State) : (s.switchSlot n i).ic = s.ic := rfl
@[simp] theorem State.switchSlot_sign (n : Nat) (i : Fin 4) (s : State) : (s.switchSlot n i).sign = s.sign := rfl
@[simp] theorem State.switchSlot_shift (n : Nat) (i : Fin 4) (s : State) : (s.switchSlot n i).shift = s.shift := rfl
@[simp] theorem State.switchSlot_prev (n : Nat) (i : Fin 4) (s : State) : (s.switchSlot n i).prev = s.prev := rfl
@[simp] theorem State.switchSlot_tot (n : Nat) (i : Fin 4) (s : State) : (s.switchSlot n i).tot = s.tot := rfl
@[simp] theorem State.switchSlot_supply (n : Nat) (i : Fin 4) (s : State) : (s.switchSlot n i).supply = s.supply := rfl
@[simp] theorem State.switchSlot_dash (n : Nat) (i : Fin 4) (s : State) : (s.switchSlot n i).dash = s.dash := rfl
@[simp] theorem State.switchSlot_link (n : Nat) (i : Fin 4) (s : State) : (s.switchSlot n i).link = s.link := rfl
@[simp] theorem State.switchSlot_pending (n : Nat) (i : Fin 4) (s : State) : (s.switchSlot n i).pending = s.pending := rfl

/-! ### takeTariff -/

@[simp] theorem State.takeTariff_dist (n : Nat) (d : Deciding) (s : State) : (s.takeTariff n d).dist = s.dist := by
  unfold State.takeTariff; split <;> simp [forSlots]
@[simp] theorem State.takeTariff_store (n : Nat) (d : Deciding) (s : State) : (s.takeTariff n d).store = s.store := by
  unfold State.takeTariff; split <;> simp [forSlots]
@[simp] theorem State.takeTariff_ic (n : Nat) (d : Deciding) (s : State) : (s.takeTariff n d).ic = s.ic := by
  unfold State.takeTariff; split <;> simp [forSlots]
@[simp] theorem State.takeTariff_sign (n : Nat) (d : Deciding) (s : State) : (s.takeTariff n d).sign = s.sign := by
  unfold State.takeTariff; split <;> simp [forSlots]
@[simp] theorem State.takeTariff_shift (n : Nat) (d : Deciding) (s : State) : (s.takeTariff n d).shift = s.shift := by
  unfold State.takeTariff; split <;> simp [forSlots]
@[simp] theorem State.takeTariff_prev (n : Nat) (d : Deciding) (s : State) : (s.takeTariff n d).prev = s.prev := by
  unfold State.takeTariff; split <;> simp [forSlots]
@[simp] theorem State.takeTariff_tot (n : Nat) (d : Deciding) (s : State) : (s.takeTariff n d).tot = s.tot := by
  unfold State.takeTariff; split <;> simp [forSlots]
@[simp] theorem State.takeTariff_supply (n : Nat) (d : Deciding) (s : State) : (s.takeTariff n d).supply = s.supply := by
  unfold State.takeTariff; split <;> simp [forSlots]
@[simp] theorem State.takeTariff_link (n : Nat) (d : Deciding) (s : State) : (s.takeTariff n d).link = s.link := by
  unfold State.takeTariff; split <;> simp [forSlots]
@[simp] theorem State.takeTariff_pending (n : Nat) (d : Deciding) (s : State) : (s.takeTariff n d).pending = s.pending := by
  unfold State.takeTariff; split <;> simp [forSlots]

/-! ### evaluate -/

@[simp] theorem State.evaluate_dist (s : State) : (s.evaluate).dist = s.dist := by
  unfold State.evaluate; split <;> simp
@[simp] theorem State.evaluate_store (s : State) : (s.evaluate).store = s.store := by
  unfold State.evaluate; split <;> simp
@[simp] theorem State.evaluate_ic (s : State) : (s.evaluate).ic = s.ic := by
  unfold State.evaluate; split <;> simp
@[simp] theorem State.evaluate_sign (s : State) : (s.evaluate).sign = s.sign := by
  unfold State.evaluate; split <;> simp
@[simp] theorem State.evaluate_shift (s : State) : (s.evaluate).shift = s.shift := by
  unfold State.evaluate; split <;> simp
@[simp] theorem State.evaluate_prev (s : State) : (s.evaluate).prev = s.prev := by
  unfold State.evaluate; split <;> simp
@[simp] theorem State.evaluate_tot (s : State) : (s.evaluate).tot = s.tot := by
  unfold State.evaluate; split <;> simp
@[simp] theorem State.evaluate_supply (s : State) : (s.evaluate).supply = s.supply := by
  unfold State.evaluate; split <;> simp
@[simp] theorem State.evaluate_link (s : State) : (s.evaluate).link = s.link := by
  unfold State.evaluate; split <;> simp
@[simp] theorem State.evaluate_pending (s : State) : (s.evaluate).pending = s.pending := by
  unfold State.evaluate; split <;> simp

/-! ### tickCalendar -/

@[simp] theorem State.tickCalendar_slots (s : State) : (s.tickCalendar).slots = s.slots := rfl
@[simp] theorem State.tickCalendar_dist (s : State) : (s.tickCalendar).dist = s.dist := rfl
@[simp] theorem State.tickCalendar_store (s : State) : (s.tickCalendar).store = s.store := rfl
@[simp] theorem State.tickCalendar_ic (s : State) : (s.tickCalendar).ic = s.ic := rfl
@[simp] theorem State.tickCalendar_sign (s : State) : (s.tickCalendar).sign = s.sign := rfl
@[simp] theorem State.tickCalendar_shift (s : State) : (s.tickCalendar).shift = s.shift := rfl
@[simp] theorem State.tickCalendar_prev (s : State) : (s.tickCalendar).prev = s.prev := rfl
@[simp] theorem State.tickCalendar_tot (s : State) : (s.tickCalendar).tot = s.tot := rfl
@[simp] theorem State.tickCalendar_supply (s : State) : (s.tickCalendar).supply = s.supply := rfl
@[simp] theorem State.tickCalendar_dash (s : State) : (s.tickCalendar).dash = s.dash := rfl
@[simp] theorem State.tickCalendar_link (s : State) : (s.tickCalendar).link = s.link := rfl
@[simp] theorem State.tickCalendar_pending (s : State) : (s.tickCalendar).pending = s.pending := rfl

/-! ### countMetre -/

@[simp] theorem State.countMetre_cal (s : State) : (s.countMetre).cal = s.cal := by
  simp [State.countMetre, forSlots, metreOnSlot]
@[simp] theorem State.countMetre_store (s : State) : (s.countMetre).store = s.store := by
  simp [State.countMetre, forSlots, metreOnSlot]
@[simp] theorem State.countMetre_ic (s : State) : (s.countMetre).ic = s.ic := by
  simp [State.countMetre, forSlots, metreOnSlot]
@[simp] theorem State.countMetre_sign (s : State) : (s.countMetre).sign = s.sign := by
  simp [State.countMetre, forSlots, metreOnSlot]
@[simp] theorem State.countMetre_prev (s : State) : (s.countMetre).prev = s.prev := by
  simp [State.countMetre, forSlots, metreOnSlot]
@[simp] theorem State.countMetre_supply (s : State) : (s.countMetre).supply = s.supply := by
  simp [State.countMetre, forSlots, metreOnSlot]
@[simp] theorem State.countMetre_dash (s : State) : (s.countMetre).dash = s.dash := by
  simp [State.countMetre, forSlots, metreOnSlot]
@[simp] theorem State.countMetre_link (s : State) : (s.countMetre).link = s.link := by
  simp [State.countMetre, forSlots, metreOnSlot]
@[simp] theorem State.countMetre_pending (s : State) : (s.countMetre).pending = s.pending := by
  simp [State.countMetre, forSlots, metreOnSlot]

/-! ### metre -/

@[simp] theorem State.metre_cal (s : State) : (s.metre).cal = s.cal := by
  unfold State.metre; split <;> simp
@[simp] theorem State.metre_store (s : State) : (s.metre).store = s.store := by
  unfold State.metre; split <;> simp
@[simp] theorem State.metre_ic (s : State) : (s.metre).ic = s.ic := by
  unfold State.metre; split <;> simp
@[simp] theorem State.metre_sign (s : State) : (s.metre).sign = s.sign := by
  unfold State.metre; split <;> simp
@[simp] theorem State.metre_prev (s : State) : (s.metre).prev = s.prev := by
  unfold State.metre; split <;> simp
@[simp] theorem State.metre_supply (s : State) : (s.metre).supply = s.supply := by
  unfold State.metre; split <;> simp
@[simp] theorem State.metre_dash (s : State) : (s.metre).dash = s.dash := by
  unfold State.metre; split <;> simp
@[simp] theorem State.metre_link (s : State) : (s.metre).link = s.link := by
  unfold State.metre; split <;> simp
@[simp] theorem State.metre_pending (s : State) : (s.metre).pending = s.pending := by
  unfold State.metre; split <;> simp

/-! ### edge -/

@[simp] theorem State.edge_cal (k : Nat) (s : State) : (s.edge k).cal = s.cal := by
  unfold State.edge; split <;> simp
@[simp] theorem State.edge_store (k : Nat) (s : State) : (s.edge k).store = s.store := by
  unfold State.edge; split <;> simp
@[simp] theorem State.edge_ic (k : Nat) (s : State) : (s.edge k).ic = s.ic := by
  unfold State.edge; split <;> simp
@[simp] theorem State.edge_sign (k : Nat) (s : State) : (s.edge k).sign = s.sign := by
  unfold State.edge; split <;> simp
@[simp] theorem State.edge_prev (k : Nat) (s : State) : (s.edge k).prev = s.prev := by
  unfold State.edge; split <;> simp
@[simp] theorem State.edge_supply (k : Nat) (s : State) : (s.edge k).supply = s.supply := by
  unfold State.edge; split <;> simp
@[simp] theorem State.edge_dash (k : Nat) (s : State) : (s.edge k).dash = s.dash := by
  unfold State.edge; split <;> simp
@[simp] theorem State.edge_link (k : Nat) (s : State) : (s.edge k).link = s.link := by
  unfold State.edge; split <;> simp
@[simp] theorem State.edge_pending (k : Nat) (s : State) : (s.edge k).pending = s.pending := by
  unfold State.edge; split <;> simp

/-! ### closeSecond -/

@[simp] theorem State.closeSecond_slots (s : State) : (s.closeSecond).slots = s.slots := by
  unfold State.closeSecond; simp; split <;> simp
@[simp] theorem State.closeSecond_cal (s : State) : (s.closeSecond).cal = s.cal := by
  unfold State.closeSecond; simp; split <;> simp
@[simp] theorem State.closeSecond_store (s : State) : (s.closeSecond).store = s.store := by
  unfold State.closeSecond; simp; split <;> simp
@[simp] theorem State.closeSecond_ic (s : State) : (s.closeSecond).ic = s.ic := by
  unfold State.closeSecond; simp; split <;> simp
@[simp] theorem State.closeSecond_sign (s : State) : (s.closeSecond).sign = s.sign := by
  unfold State.closeSecond; simp; split <;> simp
@[simp] theorem State.closeSecond_prev (s : State) : (s.closeSecond).prev = s.prev := by
  unfold State.closeSecond; simp; split <;> simp
@[simp] theorem State.closeSecond_tot (s : State) : (s.closeSecond).tot = s.tot := by
  unfold State.closeSecond; simp; split <;> simp
@[simp] theorem State.closeSecond_supply (s : State) : (s.closeSecond).supply = s.supply := by
  unfold State.closeSecond; simp; split <;> simp
@[simp] theorem State.closeSecond_link (s : State) : (s.closeSecond).link = s.link := by
  unfold State.closeSecond; simp; split <;> simp
@[simp] theorem State.closeSecond_pending (s : State) : (s.closeSecond).pending = s.pending := by
  unfold State.closeSecond; simp; split <;> simp

/-! ### sampleSensor -/

@[simp] theorem State.sampleSensor_cal (h : Bool) (s : State) : (s.sampleSensor h).cal = s.cal := by
  unfold State.sampleSensor; repeat' split
  all_goals simp [State.sensorFault, State.sensorRecovery, forSlots, markFault]
@[simp] theorem State.sampleSensor_store (h : Bool) (s : State) : (s.sampleSensor h).store = s.store := by
  unfold State.sampleSensor; repeat' split
  all_goals simp [State.sensorFault, State.sensorRecovery, forSlots, markFault]
@[simp] theorem State.sampleSensor_ic (h : Bool) (s : State) : (s.sampleSensor h).ic = s.ic := by
  unfold State.sampleSensor; repeat' split
  all_goals simp [State.sensorFault, State.sensorRecovery, forSlots, markFault]
@[simp] theorem State.sampleSensor_sign (h : Bool) (s : State) : (s.sampleSensor h).sign = s.sign := by
  unfold State.sampleSensor; repeat' split
  all_goals simp [State.sensorFault, State.sensorRecovery, forSlots, markFault]
@[simp] theorem State.sampleSensor_prev (h : Bool) (s : State) : (s.sampleSensor h).prev = s.prev := by
  unfold State.sampleSensor; repeat' split
  all_goals simp [State.sensorFault, State.sensorRecovery, forSlots, markFault]
@[simp] theorem State.sampleSensor_tot (h : Bool) (s : State) : (s.sampleSensor h).tot = s.tot := by
  unfold State.sampleSensor; repeat' split
  all_goals simp [State.sensorFault, State.sensorRecovery, forSlots, markFault]
@[simp] theorem State.sampleSensor_supply (h : Bool) (s : State) : (s.sampleSensor h).supply = s.supply := by
  unfold State.sampleSensor; repeat' split
  all_goals simp [State.sensorFault, State.sensorRecovery, forSlots, markFault]
@[simp] theorem State.sampleSensor_link (h : Bool) (s : State) : (s.sampleSensor h).link = s.link := by
  unfold State.sampleSensor; repeat' split
  all_goals simp [State.sensorFault, State.sensorRecovery, forSlots, markFault]
@[simp] theorem State.sampleSensor_pending (h : Bool) (s : State) : (s.sampleSensor h).pending = s.pending := by
  unfold State.sampleSensor; repeat' split
  all_goals simp [State.sensorFault, State.sensorRecovery, forSlots, markFault]

/-! ### sampleSwitch -/

@[simp] theorem State.sampleSwitch_slots (h : Bool) (s : State) : (s.sampleSwitch h).slots = s.slots := by
  unfold State.sampleSwitch; split <;> simp
@[simp] theorem State.sampleSwitch_cal (h : Bool) (s : State) : (s.sampleSwitch h).cal = s.cal := by
  unfold State.sampleSwitch; split <;> simp
@[simp] theorem State.sampleSwitch_dist (h : Bool) (s : State) : (s.sampleSwitch h).dist = s.dist := by
  unfold State.sampleSwitch; split <;> simp
@[simp] theorem State.sampleSwitch_ic (h : Bool) (s : State) : (s.sampleSwitch h).ic = s.ic := by
  unfold State.sampleSwitch; split <;> simp
@[simp] theorem State.sampleSwitch_sign (h : Bool) (s : State) : (s.sampleSwitch h).sign = s.sign := by
  unfold State.sampleSwitch; split <;> simp
@[simp] theorem State.sampleSwitch_shift (h : Bool) (s : State) : (s.sampleSwitch h).shift = s.shift := by
  unfold State.sampleSwitch; split <;> simp
@[simp] theorem State.sampleSwitch_prev (h : Bool) (s : State) : (s.sampleSwitch h).prev = s.prev := by
  unfold State.sampleSwitch; split <;> simp
@[simp] theorem State.sampleSwitch_supply (h : Bool) (s : State) : (s.sampleSwitch h).supply = s.supply := by
  unfold State.sampleSwitch; split <;> simp
@[simp] theorem State.sampleSwitch_link (h : Bool) (s : State) : (s.sampleSwitch h).link = s.link := by
  unfold State.sampleSwitch; split <;> simp
@[simp] theorem State.sampleSwitch_pending (h : Bool) (s : State) : (s.sampleSwitch h).pending = s.pending := by
  unfold State.sampleSwitch; split <;> simp

/-! ### closeShift -/

@[simp] theorem State.closeShift_slots (s : State) : (s.closeShift).slots = s.slots := by
  unfold State.closeShift; repeat' split
  all_goals simp
@[simp] theorem State.closeShift_cal (s : State) : (s.closeShift).cal = s.cal := by
  unfold State.closeShift; repeat' split
  all_goals simp
@[simp] theorem State.closeShift_dist (s : State) : (s.closeShift).dist = s.dist := by
  unfold State.closeShift; repeat' split
  all_goals simp
@[simp] theorem State.closeShift_store (s : State) : (s.closeShift).store = s.store := by
  unfold State.closeShift; repeat' split
  all_goals simp
@[simp] theorem State.closeShift_ic (s : State) : (s.closeShift).ic = s.ic := by
  unfold State.closeShift; repeat' split
  all_goals simp
@[simp] theorem State.closeShift_tot (s : State) : (s.closeShift).tot = s.tot := by
  unfold State.closeShift; repeat' split
  all_goals simp
@[simp] theorem State.closeShift_supply (s : State) : (s.closeShift).supply = s.supply := by
  unfold State.closeShift; repeat' split
  all_goals simp
@[simp] theorem State.closeShift_link (s : State) : (s.closeShift).link = s.link := by
  unfold State.closeShift; repeat' split
  all_goals simp
@[simp] theorem State.closeShift_pending (s : State) : (s.closeShift).pending = s.pending := by
  unfold State.closeShift; repeat' split
  all_goals simp

/-! ### sendHold -/

@[simp] theorem State.sendHold_slots (a b : Trip) (s : State) : (s.sendHold a b).slots = s.slots := by
  unfold State.sendHold; repeat' split
  all_goals simp
@[simp] theorem State.sendHold_cal (a b : Trip) (s : State) : (s.sendHold a b).cal = s.cal := by
  unfold State.sendHold; repeat' split
  all_goals simp
@[simp] theorem State.sendHold_dist (a b : Trip) (s : State) : (s.sendHold a b).dist = s.dist := by
  unfold State.sendHold; repeat' split
  all_goals simp
@[simp] theorem State.sendHold_store (a b : Trip) (s : State) : (s.sendHold a b).store = s.store := by
  unfold State.sendHold; repeat' split
  all_goals simp
@[simp] theorem State.sendHold_ic (a b : Trip) (s : State) : (s.sendHold a b).ic = s.ic := by
  unfold State.sendHold; repeat' split
  all_goals simp
@[simp] theorem State.sendHold_sign (a b : Trip) (s : State) : (s.sendHold a b).sign = s.sign := by
  unfold State.sendHold; repeat' split
  all_goals simp
@[simp] theorem State.sendHold_shift (a b : Trip) (s : State) : (s.sendHold a b).shift = s.shift := by
  unfold State.sendHold; repeat' split
  all_goals simp
@[simp] theorem State.sendHold_prev (a b : Trip) (s : State) : (s.sendHold a b).prev = s.prev := by
  unfold State.sendHold; repeat' split
  all_goals simp
@[simp] theorem State.sendHold_tot (a b : Trip) (s : State) : (s.sendHold a b).tot = s.tot := by
  unfold State.sendHold; repeat' split
  all_goals simp
@[simp] theorem State.sendHold_supply (a b : Trip) (s : State) : (s.sendHold a b).supply = s.supply := by
  unfold State.sendHold; repeat' split
  all_goals simp
@[simp] theorem State.sendHold_dash (a b : Trip) (s : State) : (s.sendHold a b).dash = s.dash := by
  unfold State.sendHold; repeat' split
  all_goals simp
@[simp] theorem State.sendHold_pending (a b : Trip) (s : State) : (s.sendHold a b).pending = s.pending := by
  unfold State.sendHold; repeat' split
  all_goals simp

/-! ### paymentExpires -/

@[simp] theorem State.paymentExpires_cal (i : Fin 4) (t : Trip) (s : State) : (s.paymentExpires i t).cal = s.cal := by
  simp [State.paymentExpires]
@[simp] theorem State.paymentExpires_dist (i : Fin 4) (t : Trip) (s : State) : (s.paymentExpires i t).dist = s.dist := by
  simp [State.paymentExpires]
@[simp] theorem State.paymentExpires_store (i : Fin 4) (t : Trip) (s : State) : (s.paymentExpires i t).store = s.store := by
  simp [State.paymentExpires]
@[simp] theorem State.paymentExpires_ic (i : Fin 4) (t : Trip) (s : State) : (s.paymentExpires i t).ic = s.ic := by
  simp [State.paymentExpires]
@[simp] theorem State.paymentExpires_sign (i : Fin 4) (t : Trip) (s : State) : (s.paymentExpires i t).sign = s.sign := by
  simp [State.paymentExpires]
@[simp] theorem State.paymentExpires_shift (i : Fin 4) (t : Trip) (s : State) : (s.paymentExpires i t).shift = s.shift := by
  simp [State.paymentExpires]
@[simp] theorem State.paymentExpires_prev (i : Fin 4) (t : Trip) (s : State) : (s.paymentExpires i t).prev = s.prev := by
  simp [State.paymentExpires]
@[simp] theorem State.paymentExpires_tot (i : Fin 4) (t : Trip) (s : State) : (s.paymentExpires i t).tot = s.tot := by
  simp [State.paymentExpires]
@[simp] theorem State.paymentExpires_supply (i : Fin 4) (t : Trip) (s : State) : (s.paymentExpires i t).supply = s.supply := by
  simp [State.paymentExpires]
@[simp] theorem State.paymentExpires_pending (i : Fin 4) (t : Trip) (s : State) : (s.paymentExpires i t).pending = s.pending := by
  simp [State.paymentExpires]

/-! ### paymentTick -/

@[simp] theorem State.paymentTick_cal (i : Fin 4) (s : State) : (s.paymentTick i).cal = s.cal := by
  unfold State.paymentTick; repeat' split
  all_goals simp
@[simp] theorem State.paymentTick_dist (i : Fin 4) (s : State) : (s.paymentTick i).dist = s.dist := by
  unfold State.paymentTick; repeat' split
  all_goals simp
@[simp] theorem State.paymentTick_store (i : Fin 4) (s : State) : (s.paymentTick i).store = s.store := by
  unfold State.paymentTick; repeat' split
  all_goals simp
@[simp] theorem State.paymentTick_ic (i : Fin 4) (s : State) : (s.paymentTick i).ic = s.ic := by
  unfold State.paymentTick; repeat' split
  all_goals simp
@[simp] theorem State.paymentTick_sign (i : Fin 4) (s : State) : (s.paymentTick i).sign = s.sign := by
  unfold State.paymentTick; repeat' split
  all_goals simp
@[simp] theorem State.paymentTick_shift (i : Fin 4) (s : State) : (s.paymentTick i).shift = s.shift := by
  unfold State.paymentTick; repeat' split
  all_goals simp
@[simp] theorem State.paymentTick_prev (i : Fin 4) (s : State) : (s.paymentTick i).prev = s.prev := by
  unfold State.paymentTick; repeat' split
  all_goals simp
@[simp] theorem State.paymentTick_tot (i : Fin 4) (s : State) : (s.paymentTick i).tot = s.tot := by
  unfold State.paymentTick; repeat' split
  all_goals simp
@[simp] theorem State.paymentTick_supply (i : Fin 4) (s : State) : (s.paymentTick i).supply = s.supply := by
  unfold State.paymentTick; repeat' split
  all_goals simp
@[simp] theorem State.paymentTick_pending (i : Fin 4) (s : State) : (s.paymentTick i).pending = s.pending := by
  unfold State.paymentTick; repeat' split
  all_goals simp

/-! ### fareTimers -/

@[simp] theorem State.fareTimers_cal (s : State) : (s.fareTimers).cal = s.cal := by
  simp [State.fareTimers, forSlots, graceTick]
@[simp] theorem State.fareTimers_dist (s : State) : (s.fareTimers).dist = s.dist := by
  simp [State.fareTimers, forSlots, graceTick]
@[simp] theorem State.fareTimers_store (s : State) : (s.fareTimers).store = s.store := by
  simp [State.fareTimers, forSlots, graceTick]
@[simp] theorem State.fareTimers_ic (s : State) : (s.fareTimers).ic = s.ic := by
  simp [State.fareTimers, forSlots, graceTick]
@[simp] theorem State.fareTimers_sign (s : State) : (s.fareTimers).sign = s.sign := by
  simp [State.fareTimers, forSlots, graceTick]
@[simp] theorem State.fareTimers_shift (s : State) : (s.fareTimers).shift = s.shift := by
  simp [State.fareTimers, forSlots, graceTick]
@[simp] theorem State.fareTimers_prev (s : State) : (s.fareTimers).prev = s.prev := by
  simp [State.fareTimers, forSlots, graceTick]
@[simp] theorem State.fareTimers_tot (s : State) : (s.fareTimers).tot = s.tot := by
  simp [State.fareTimers, forSlots, graceTick]
@[simp] theorem State.fareTimers_supply (s : State) : (s.fareTimers).supply = s.supply := by
  simp [State.fareTimers, forSlots, graceTick]
@[simp] theorem State.fareTimers_pending (s : State) : (s.fareTimers).pending = s.pending := by
  simp [State.fareTimers, forSlots, graceTick]

/-! ### callExpires -/

@[simp] theorem State.callExpires_slots (x : Station) (s : State) : (s.callExpires x).slots = s.slots := by
  simp [State.callExpires]
@[simp] theorem State.callExpires_cal (x : Station) (s : State) : (s.callExpires x).cal = s.cal := by
  simp [State.callExpires]
@[simp] theorem State.callExpires_dist (x : Station) (s : State) : (s.callExpires x).dist = s.dist := by
  simp [State.callExpires]
@[simp] theorem State.callExpires_store (x : Station) (s : State) : (s.callExpires x).store = s.store := by
  simp [State.callExpires]
@[simp] theorem State.callExpires_sign (x : Station) (s : State) : (s.callExpires x).sign = s.sign := by
  simp [State.callExpires]
@[simp] theorem State.callExpires_prev (x : Station) (s : State) : (s.callExpires x).prev = s.prev := by
  simp [State.callExpires]
@[simp] theorem State.callExpires_tot (x : Station) (s : State) : (s.callExpires x).tot = s.tot := by
  simp [State.callExpires]
@[simp] theorem State.callExpires_supply (x : Station) (s : State) : (s.callExpires x).supply = s.supply := by
  simp [State.callExpires]
@[simp] theorem State.callExpires_link (x : Station) (s : State) : (s.callExpires x).link = s.link := by
  simp [State.callExpires]
@[simp] theorem State.callExpires_pending (x : Station) (s : State) : (s.callExpires x).pending = s.pending := by
  simp [State.callExpires]

/-! ### callTick -/

@[simp] theorem State.callTick_slots (x : Station) (s : State) : (s.callTick x).slots = s.slots := by
  unfold State.callTick; repeat' split
  all_goals simp
@[simp] theorem State.callTick_cal (x : Station) (s : State) : (s.callTick x).cal = s.cal := by
  unfold State.callTick; repeat' split
  all_goals simp
@[simp] theorem State.callTick_dist (x : Station) (s : State) : (s.callTick x).dist = s.dist := by
  unfold State.callTick; repeat' split
  all_goals simp
@[simp] theorem State.callTick_store (x : Station) (s : State) : (s.callTick x).store = s.store := by
  unfold State.callTick; repeat' split
  all_goals simp
@[simp] theorem State.callTick_sign (x : Station) (s : State) : (s.callTick x).sign = s.sign := by
  unfold State.callTick; repeat' split
  all_goals simp
@[simp] theorem State.callTick_prev (x : Station) (s : State) : (s.callTick x).prev = s.prev := by
  unfold State.callTick; repeat' split
  all_goals simp
@[simp] theorem State.callTick_tot (x : Station) (s : State) : (s.callTick x).tot = s.tot := by
  unfold State.callTick; repeat' split
  all_goals simp
@[simp] theorem State.callTick_supply (x : Station) (s : State) : (s.callTick x).supply = s.supply := by
  unfold State.callTick; repeat' split
  all_goals simp
@[simp] theorem State.callTick_link (x : Station) (s : State) : (s.callTick x).link = s.link := by
  unfold State.callTick; repeat' split
  all_goals simp
@[simp] theorem State.callTick_pending (x : Station) (s : State) : (s.callTick x).pending = s.pending := by
  unfold State.callTick; repeat' split
  all_goals simp

/-! ### intercomTick -/

@[simp] theorem State.intercomTick_slots (s : State) : (s.intercomTick).slots = s.slots := by
  simp [State.intercomTick]
@[simp] theorem State.intercomTick_cal (s : State) : (s.intercomTick).cal = s.cal := by
  simp [State.intercomTick]
@[simp] theorem State.intercomTick_dist (s : State) : (s.intercomTick).dist = s.dist := by
  simp [State.intercomTick]
@[simp] theorem State.intercomTick_store (s : State) : (s.intercomTick).store = s.store := by
  simp [State.intercomTick]
@[simp] theorem State.intercomTick_sign (s : State) : (s.intercomTick).sign = s.sign := by
  simp [State.intercomTick]
@[simp] theorem State.intercomTick_prev (s : State) : (s.intercomTick).prev = s.prev := by
  simp [State.intercomTick]
@[simp] theorem State.intercomTick_tot (s : State) : (s.intercomTick).tot = s.tot := by
  simp [State.intercomTick]
@[simp] theorem State.intercomTick_supply (s : State) : (s.intercomTick).supply = s.supply := by
  simp [State.intercomTick]
@[simp] theorem State.intercomTick_link (s : State) : (s.intercomTick).link = s.link := by
  simp [State.intercomTick]
@[simp] theorem State.intercomTick_pending (s : State) : (s.intercomTick).pending = s.pending := by
  simp [State.intercomTick]

/-! ### buttonAction -/

@[simp] theorem State.buttonAction_slots (x : Station) (a : ButtonAction) (s : State) : (s.buttonAction x a).slots = s.slots := by
  unfold State.buttonAction State.call; repeat' split
  all_goals simp
@[simp] theorem State.buttonAction_cal (x : Station) (a : ButtonAction) (s : State) : (s.buttonAction x a).cal = s.cal := by
  unfold State.buttonAction State.call; repeat' split
  all_goals simp
@[simp] theorem State.buttonAction_dist (x : Station) (a : ButtonAction) (s : State) : (s.buttonAction x a).dist = s.dist := by
  unfold State.buttonAction State.call; repeat' split
  all_goals simp
@[simp] theorem State.buttonAction_store (x : Station) (a : ButtonAction) (s : State) : (s.buttonAction x a).store = s.store := by
  unfold State.buttonAction State.call; repeat' split
  all_goals simp
@[simp] theorem State.buttonAction_sign (x : Station) (a : ButtonAction) (s : State) : (s.buttonAction x a).sign = s.sign := by
  unfold State.buttonAction State.call; repeat' split
  all_goals simp
@[simp] theorem State.buttonAction_shift (x : Station) (a : ButtonAction) (s : State) : (s.buttonAction x a).shift = s.shift := by
  unfold State.buttonAction State.call; repeat' split
  all_goals simp
@[simp] theorem State.buttonAction_prev (x : Station) (a : ButtonAction) (s : State) : (s.buttonAction x a).prev = s.prev := by
  unfold State.buttonAction State.call; repeat' split
  all_goals simp
@[simp] theorem State.buttonAction_tot (x : Station) (a : ButtonAction) (s : State) : (s.buttonAction x a).tot = s.tot := by
  unfold State.buttonAction State.call; repeat' split
  all_goals simp
@[simp] theorem State.buttonAction_supply (x : Station) (a : ButtonAction) (s : State) : (s.buttonAction x a).supply = s.supply := by
  unfold State.buttonAction State.call; repeat' split
  all_goals simp
@[simp] theorem State.buttonAction_link (x : Station) (a : ButtonAction) (s : State) : (s.buttonAction x a).link = s.link := by
  unfold State.buttonAction State.call; repeat' split
  all_goals simp
@[simp] theorem State.buttonAction_pending (x : Station) (a : ButtonAction) (s : State) : (s.buttonAction x a).pending = s.pending := by
  unfold State.buttonAction State.call; repeat' split
  all_goals simp

/-! ### enterStandby -/

@[simp] theorem State.enterStandby_slots (s : State) : (s.enterStandby).slots = s.slots := by
  simp [State.enterStandby]
@[simp] theorem State.enterStandby_cal (s : State) : (s.enterStandby).cal = s.cal := by
  simp [State.enterStandby]
@[simp] theorem State.enterStandby_dist (s : State) : (s.enterStandby).dist = s.dist := by
  simp [State.enterStandby]
@[simp] theorem State.enterStandby_store (s : State) : (s.enterStandby).store = s.store := by
  simp [State.enterStandby]
@[simp] theorem State.enterStandby_shift (s : State) : (s.enterStandby).shift = s.shift := by
  simp [State.enterStandby]
@[simp] theorem State.enterStandby_prev (s : State) : (s.enterStandby).prev = s.prev := by
  simp [State.enterStandby]
@[simp] theorem State.enterStandby_tot (s : State) : (s.enterStandby).tot = s.tot := by
  simp [State.enterStandby]
@[simp] theorem State.enterStandby_pending (s : State) : (s.enterStandby).pending = s.pending := by
  simp [State.enterStandby]

/-! ### wake -/

@[simp] theorem State.wake_slots (s : State) : (s.wake).slots = s.slots := by
  simp [State.wake]
@[simp] theorem State.wake_cal (s : State) : (s.wake).cal = s.cal := by
  simp [State.wake]
@[simp] theorem State.wake_dist (s : State) : (s.wake).dist = s.dist := by
  simp [State.wake]
@[simp] theorem State.wake_store (s : State) : (s.wake).store = s.store := by
  simp [State.wake]
@[simp] theorem State.wake_shift (s : State) : (s.wake).shift = s.shift := by
  simp [State.wake]
@[simp] theorem State.wake_prev (s : State) : (s.wake).prev = s.prev := by
  simp [State.wake]
@[simp] theorem State.wake_tot (s : State) : (s.wake).tot = s.tot := by
  simp [State.wake]
@[simp] theorem State.wake_dash (s : State) : (s.wake).dash = s.dash := by
  simp [State.wake]
@[simp] theorem State.wake_pending (s : State) : (s.wake).pending = s.pending := by
  simp [State.wake]

/-! ### wakeIfStandby -/

@[simp] theorem State.wakeIfStandby_slots (s : State) : (s.wakeIfStandby).slots = s.slots := by
  unfold State.wakeIfStandby; split <;> simp
@[simp] theorem State.wakeIfStandby_cal (s : State) : (s.wakeIfStandby).cal = s.cal := by
  unfold State.wakeIfStandby; split <;> simp
@[simp] theorem State.wakeIfStandby_dist (s : State) : (s.wakeIfStandby).dist = s.dist := by
  unfold State.wakeIfStandby; split <;> simp
@[simp] theorem State.wakeIfStandby_store (s : State) : (s.wakeIfStandby).store = s.store := by
  unfold State.wakeIfStandby; split <;> simp
@[simp] theorem State.wakeIfStandby_shift (s : State) : (s.wakeIfStandby).shift = s.shift := by
  unfold State.wakeIfStandby; split <;> simp
@[simp] theorem State.wakeIfStandby_prev (s : State) : (s.wakeIfStandby).prev = s.prev := by
  unfold State.wakeIfStandby; split <;> simp
@[simp] theorem State.wakeIfStandby_tot (s : State) : (s.wakeIfStandby).tot = s.tot := by
  unfold State.wakeIfStandby; split <;> simp
@[simp] theorem State.wakeIfStandby_dash (s : State) : (s.wakeIfStandby).dash = s.dash := by
  unfold State.wakeIfStandby; split <;> simp
@[simp] theorem State.wakeIfStandby_pending (s : State) : (s.wakeIfStandby).pending = s.pending := by
  unfold State.wakeIfStandby; split <;> simp

/-! ### sampleIgnition -/

@[simp] theorem State.sampleIgnition_slots (h : Bool) (s : State) : (s.sampleIgnition h).slots = s.slots := by
  unfold State.sampleIgnition; split <;> simp
@[simp] theorem State.sampleIgnition_cal (h : Bool) (s : State) : (s.sampleIgnition h).cal = s.cal := by
  unfold State.sampleIgnition; split <;> simp
@[simp] theorem State.sampleIgnition_dist (h : Bool) (s : State) : (s.sampleIgnition h).dist = s.dist := by
  unfold State.sampleIgnition; split <;> simp
@[simp] theorem State.sampleIgnition_store (h : Bool) (s : State) : (s.sampleIgnition h).store = s.store := by
  unfold State.sampleIgnition; split <;> simp
@[simp] theorem State.sampleIgnition_shift (h : Bool) (s : State) : (s.sampleIgnition h).shift = s.shift := by
  unfold State.sampleIgnition; split <;> simp
@[simp] theorem State.sampleIgnition_prev (h : Bool) (s : State) : (s.sampleIgnition h).prev = s.prev := by
  unfold State.sampleIgnition; split <;> simp
@[simp] theorem State.sampleIgnition_tot (h : Bool) (s : State) : (s.sampleIgnition h).tot = s.tot := by
  unfold State.sampleIgnition; split <;> simp
@[simp] theorem State.sampleIgnition_dash (h : Bool) (s : State) : (s.sampleIgnition h).dash = s.dash := by
  unfold State.sampleIgnition; split <;> simp
@[simp] theorem State.sampleIgnition_pending (h : Bool) (s : State) : (s.sampleIgnition h).pending = s.pending := by
  unfold State.sampleIgnition; split <;> simp

/-! ### countIgnitionOff -/

@[simp] theorem State.countIgnitionOff_slots (s : State) : (s.countIgnitionOff).slots = s.slots := by
  unfold State.countIgnitionOff; dsimp only; split <;> simp
@[simp] theorem State.countIgnitionOff_cal (s : State) : (s.countIgnitionOff).cal = s.cal := by
  unfold State.countIgnitionOff; dsimp only; split <;> simp
@[simp] theorem State.countIgnitionOff_dist (s : State) : (s.countIgnitionOff).dist = s.dist := by
  unfold State.countIgnitionOff; dsimp only; split <;> simp
@[simp] theorem State.countIgnitionOff_store (s : State) : (s.countIgnitionOff).store = s.store := by
  unfold State.countIgnitionOff; dsimp only; split <;> simp
@[simp] theorem State.countIgnitionOff_shift (s : State) : (s.countIgnitionOff).shift = s.shift := by
  unfold State.countIgnitionOff; dsimp only; split <;> simp
@[simp] theorem State.countIgnitionOff_prev (s : State) : (s.countIgnitionOff).prev = s.prev := by
  unfold State.countIgnitionOff; dsimp only; split <;> simp
@[simp] theorem State.countIgnitionOff_tot (s : State) : (s.countIgnitionOff).tot = s.tot := by
  unfold State.countIgnitionOff; dsimp only; split <;> simp
@[simp] theorem State.countIgnitionOff_pending (s : State) : (s.countIgnitionOff).pending = s.pending := by
  unfold State.countIgnitionOff; dsimp only; split <;> simp

/-! ### ignitionTick -/

@[simp] theorem State.ignitionTick_slots (s : State) : (s.ignitionTick).slots = s.slots := by
  unfold State.ignitionTick; split <;> simp
@[simp] theorem State.ignitionTick_cal (s : State) : (s.ignitionTick).cal = s.cal := by
  unfold State.ignitionTick; split <;> simp
@[simp] theorem State.ignitionTick_dist (s : State) : (s.ignitionTick).dist = s.dist := by
  unfold State.ignitionTick; split <;> simp
@[simp] theorem State.ignitionTick_store (s : State) : (s.ignitionTick).store = s.store := by
  unfold State.ignitionTick; split <;> simp
@[simp] theorem State.ignitionTick_shift (s : State) : (s.ignitionTick).shift = s.shift := by
  unfold State.ignitionTick; split <;> simp
@[simp] theorem State.ignitionTick_prev (s : State) : (s.ignitionTick).prev = s.prev := by
  unfold State.ignitionTick; split <;> simp
@[simp] theorem State.ignitionTick_tot (s : State) : (s.ignitionTick).tot = s.tot := by
  unfold State.ignitionTick; split <;> simp
@[simp] theorem State.ignitionTick_pending (s : State) : (s.ignitionTick).pending = s.pending := by
  unfold State.ignitionTick; split <;> simp

/-! ### pauseAll -/

@[simp] theorem State.pauseAll_cal (s : State) : (s.pauseAll).cal = s.cal := by
  simp [State.pauseAll, forSlots, powerPause]
@[simp] theorem State.pauseAll_dist (s : State) : (s.pauseAll).dist = s.dist := by
  simp [State.pauseAll, forSlots, powerPause]
@[simp] theorem State.pauseAll_store (s : State) : (s.pauseAll).store = s.store := by
  simp [State.pauseAll, forSlots, powerPause]
@[simp] theorem State.pauseAll_ic (s : State) : (s.pauseAll).ic = s.ic := by
  simp [State.pauseAll, forSlots, powerPause]
@[simp] theorem State.pauseAll_sign (s : State) : (s.pauseAll).sign = s.sign := by
  simp [State.pauseAll, forSlots, powerPause]
@[simp] theorem State.pauseAll_shift (s : State) : (s.pauseAll).shift = s.shift := by
  simp [State.pauseAll, forSlots, powerPause]
@[simp] theorem State.pauseAll_prev (s : State) : (s.pauseAll).prev = s.prev := by
  simp [State.pauseAll, forSlots, powerPause]
@[simp] theorem State.pauseAll_tot (s : State) : (s.pauseAll).tot = s.tot := by
  simp [State.pauseAll, forSlots, powerPause]
@[simp] theorem State.pauseAll_supply (s : State) : (s.pauseAll).supply = s.supply := by
  simp [State.pauseAll, forSlots, powerPause]
@[simp] theorem State.pauseAll_pending (s : State) : (s.pauseAll).pending = s.pending := by
  simp [State.pauseAll, forSlots, powerPause]

/-! ### minuteTick -/

@[simp] theorem State.minuteTick_dist (s : State) : (s.minuteTick).dist = s.dist := by
  unfold State.minuteTick; split <;> simp
@[simp] theorem State.minuteTick_store (s : State) : (s.minuteTick).store = s.store := by
  unfold State.minuteTick; split <;> simp
@[simp] theorem State.minuteTick_ic (s : State) : (s.minuteTick).ic = s.ic := by
  unfold State.minuteTick; split <;> simp
@[simp] theorem State.minuteTick_sign (s : State) : (s.minuteTick).sign = s.sign := by
  unfold State.minuteTick; split <;> simp
@[simp] theorem State.minuteTick_shift (s : State) : (s.minuteTick).shift = s.shift := by
  unfold State.minuteTick; split <;> simp
@[simp] theorem State.minuteTick_prev (s : State) : (s.minuteTick).prev = s.prev := by
  unfold State.minuteTick; split <;> simp
@[simp] theorem State.minuteTick_tot (s : State) : (s.minuteTick).tot = s.tot := by
  unfold State.minuteTick; split <;> simp
@[simp] theorem State.minuteTick_supply (s : State) : (s.minuteTick).supply = s.supply := by
  unfold State.minuteTick; split <;> simp
@[simp] theorem State.minuteTick_link (s : State) : (s.minuteTick).link = s.link := by
  unfold State.minuteTick; split <;> simp
@[simp] theorem State.minuteTick_pending (s : State) : (s.minuteTick).pending = s.pending := by
  unfold State.minuteTick; split <;> simp

/-! ### resolveMarker -/

@[simp] theorem State.resolveMarker_slots (s : State) : (s.resolveMarker).slots = s.slots := by
  unfold State.resolveMarker; split <;> simp
@[simp] theorem State.resolveMarker_dist (s : State) : (s.resolveMarker).dist = s.dist := by
  unfold State.resolveMarker; split <;> simp
@[simp] theorem State.resolveMarker_ic (s : State) : (s.resolveMarker).ic = s.ic := by
  unfold State.resolveMarker; split <;> simp
@[simp] theorem State.resolveMarker_sign (s : State) : (s.resolveMarker).sign = s.sign := by
  unfold State.resolveMarker; split <;> simp
@[simp] theorem State.resolveMarker_shift (s : State) : (s.resolveMarker).shift = s.shift := by
  unfold State.resolveMarker; split <;> simp
@[simp] theorem State.resolveMarker_prev (s : State) : (s.resolveMarker).prev = s.prev := by
  unfold State.resolveMarker; split <;> simp
@[simp] theorem State.resolveMarker_tot (s : State) : (s.resolveMarker).tot = s.tot := by
  unfold State.resolveMarker; split <;> simp
@[simp] theorem State.resolveMarker_supply (s : State) : (s.resolveMarker).supply = s.supply := by
  unfold State.resolveMarker; split <;> simp
@[simp] theorem State.resolveMarker_link (s : State) : (s.resolveMarker).link = s.link := by
  unfold State.resolveMarker; split <;> simp
@[simp] theorem State.resolveMarker_pending (s : State) : (s.resolveMarker).pending = s.pending := by
  unfold State.resolveMarker; split <;> simp

/-! ### honourStandby -/

@[simp] theorem State.honourStandby_slots (s : State) : (s.honourStandby).slots = s.slots := by
  unfold State.honourStandby; repeat' split
  all_goals simp
@[simp] theorem State.honourStandby_cal (s : State) : (s.honourStandby).cal = s.cal := by
  unfold State.honourStandby; repeat' split
  all_goals simp
@[simp] theorem State.honourStandby_dist (s : State) : (s.honourStandby).dist = s.dist := by
  unfold State.honourStandby; repeat' split
  all_goals simp
@[simp] theorem State.honourStandby_store (s : State) : (s.honourStandby).store = s.store := by
  unfold State.honourStandby; repeat' split
  all_goals simp
@[simp] theorem State.honourStandby_shift (s : State) : (s.honourStandby).shift = s.shift := by
  unfold State.honourStandby; repeat' split
  all_goals simp
@[simp] theorem State.honourStandby_prev (s : State) : (s.honourStandby).prev = s.prev := by
  unfold State.honourStandby; repeat' split
  all_goals simp
@[simp] theorem State.honourStandby_tot (s : State) : (s.honourStandby).tot = s.tot := by
  unfold State.honourStandby; repeat' split
  all_goals simp
@[simp] theorem State.honourStandby_pending (s : State) : (s.honourStandby).pending = s.pending := by
  unfold State.honourStandby; repeat' split
  all_goals simp

/-! ### linkReset -/

@[simp] theorem State.linkReset_slots (s : State) : (s.linkReset).slots = s.slots := by
  simp [State.linkReset]
@[simp] theorem State.linkReset_cal (s : State) : (s.linkReset).cal = s.cal := by
  simp [State.linkReset]
@[simp] theorem State.linkReset_dist (s : State) : (s.linkReset).dist = s.dist := by
  simp [State.linkReset]
@[simp] theorem State.linkReset_shift (s : State) : (s.linkReset).shift = s.shift := by
  simp [State.linkReset]
@[simp] theorem State.linkReset_prev (s : State) : (s.linkReset).prev = s.prev := by
  simp [State.linkReset]
@[simp] theorem State.linkReset_tot (s : State) : (s.linkReset).tot = s.tot := by
  simp [State.linkReset]
@[simp] theorem State.linkReset_link (s : State) : (s.linkReset).link = s.link := by
  simp [State.linkReset]
@[simp] theorem State.linkReset_pending (s : State) : (s.linkReset).pending = s.pending := by
  simp [State.linkReset]

/-! ### judgeWrite -/

@[simp] theorem State.judgeWrite_slots (b : List Byte) (s : State) : (s.judgeWrite b).slots = s.slots := by
  unfold State.judgeWrite State.discardWrite State.ackDiscard; repeat' split
  all_goals simp
@[simp] theorem State.judgeWrite_cal (b : List Byte) (s : State) : (s.judgeWrite b).cal = s.cal := by
  unfold State.judgeWrite State.discardWrite State.ackDiscard; repeat' split
  all_goals simp
@[simp] theorem State.judgeWrite_dist (b : List Byte) (s : State) : (s.judgeWrite b).dist = s.dist := by
  unfold State.judgeWrite State.discardWrite State.ackDiscard; repeat' split
  all_goals simp
@[simp] theorem State.judgeWrite_store (b : List Byte) (s : State) : (s.judgeWrite b).store = s.store := by
  unfold State.judgeWrite State.discardWrite State.ackDiscard; repeat' split
  all_goals simp
@[simp] theorem State.judgeWrite_ic (b : List Byte) (s : State) : (s.judgeWrite b).ic = s.ic := by
  unfold State.judgeWrite State.discardWrite State.ackDiscard; repeat' split
  all_goals simp
@[simp] theorem State.judgeWrite_sign (b : List Byte) (s : State) : (s.judgeWrite b).sign = s.sign := by
  unfold State.judgeWrite State.discardWrite State.ackDiscard; repeat' split
  all_goals simp
@[simp] theorem State.judgeWrite_shift (b : List Byte) (s : State) : (s.judgeWrite b).shift = s.shift := by
  unfold State.judgeWrite State.discardWrite State.ackDiscard; repeat' split
  all_goals simp
@[simp] theorem State.judgeWrite_prev (b : List Byte) (s : State) : (s.judgeWrite b).prev = s.prev := by
  unfold State.judgeWrite State.discardWrite State.ackDiscard; repeat' split
  all_goals simp
@[simp] theorem State.judgeWrite_tot (b : List Byte) (s : State) : (s.judgeWrite b).tot = s.tot := by
  unfold State.judgeWrite State.discardWrite State.ackDiscard; repeat' split
  all_goals simp
@[simp] theorem State.judgeWrite_supply (b : List Byte) (s : State) : (s.judgeWrite b).supply = s.supply := by
  unfold State.judgeWrite State.discardWrite State.ackDiscard; repeat' split
  all_goals simp
@[simp] theorem State.judgeWrite_pending (b : List Byte) (s : State) : (s.judgeWrite b).pending = s.pending := by
  unfold State.judgeWrite State.discardWrite State.ackDiscard; repeat' split
  all_goals simp

/-! ### endRead -/

@[simp] theorem State.endRead_slots (n : Nat) (s : State) : (s.endRead n).slots = s.slots := by
  unfold State.endRead; repeat' split
  all_goals simp
@[simp] theorem State.endRead_cal (n : Nat) (s : State) : (s.endRead n).cal = s.cal := by
  unfold State.endRead; repeat' split
  all_goals simp
@[simp] theorem State.endRead_dist (n : Nat) (s : State) : (s.endRead n).dist = s.dist := by
  unfold State.endRead; repeat' split
  all_goals simp
@[simp] theorem State.endRead_store (n : Nat) (s : State) : (s.endRead n).store = s.store := by
  unfold State.endRead; repeat' split
  all_goals simp
@[simp] theorem State.endRead_ic (n : Nat) (s : State) : (s.endRead n).ic = s.ic := by
  unfold State.endRead; repeat' split
  all_goals simp
@[simp] theorem State.endRead_sign (n : Nat) (s : State) : (s.endRead n).sign = s.sign := by
  unfold State.endRead; repeat' split
  all_goals simp
@[simp] theorem State.endRead_shift (n : Nat) (s : State) : (s.endRead n).shift = s.shift := by
  unfold State.endRead; repeat' split
  all_goals simp
@[simp] theorem State.endRead_prev (n : Nat) (s : State) : (s.endRead n).prev = s.prev := by
  unfold State.endRead; repeat' split
  all_goals simp
@[simp] theorem State.endRead_tot (n : Nat) (s : State) : (s.endRead n).tot = s.tot := by
  unfold State.endRead; repeat' split
  all_goals simp
@[simp] theorem State.endRead_supply (n : Nat) (s : State) : (s.endRead n).supply = s.supply := by
  unfold State.endRead; repeat' split
  all_goals simp
@[simp] theorem State.endRead_dash (n : Nat) (s : State) : (s.endRead n).dash = s.dash := by
  unfold State.endRead; repeat' split
  all_goals simp
@[simp] theorem State.endRead_pending (n : Nat) (s : State) : (s.endRead n).pending = s.pending := by
  unfold State.endRead; repeat' split
  all_goals simp

end Sys2Proof.Machine
end

