-- ==== Sys2Proof/Laws/Intercom.lean ====
section
/-! SUPPORT. The intercom's operations, each said once: what becomes of the path, the timers and each station's line. -/

namespace Sys2Proof.Machine

/-- A change of one station's line is seen at that station alone. -/
theorem Intercom.onLine_line (c : Intercom) (x y : Station) (f : StationLine → StationLine) :
    (c.onLine x f).line y = if y = x then f (c.line y) else c.line y := by
  cases x <;> cases y <;> rfl

/-- R127: sounding a call chime changes the tone alone. -/
theorem Intercom.sound_frame (x : Station) (c : Intercom) :
    (c.sound x).stations = c.stations ∧ (c.sound x).path = c.path
      ∧ (c.sound x).connectionTimer = c.connectionTimer ∧ (c.sound x).talkTimer = c.talkTimer := by
  unfold Intercom.sound
  split
  · simp
  · split <;> simp

/-- R127: a deferred chime's sounding clears the deferral of a station still CALLING. -/
theorem Intercom.soundDeferred_spec (x : Station) (c : Intercom) :
    (c.soundDeferred x).path = c.path ∧ (c.soundDeferred x).connectionTimer = c.connectionTimer
      ∧ (c.soundDeferred x).talkTimer = c.talkTimer
      ∧ ∀ y, (c.soundDeferred x).line y
          = if y = x ∧ (c.line x).state = .calling then { c.line y with deferred := false } else c.line y := by
  unfold Intercom.soundDeferred
  split
  · rename_i h
    simp [Intercom.isCalling] at h
    have hs : ∀ (d : Intercom) (y : Station), (d.sound x).line y = d.line y := by
      intro d y; simp only [Intercom.line, Intercom.sound_frame]
    simp only [hs, Intercom.sound_frame, Intercom.onLine_line, h.1, and_true]
    exact ⟨rfl, rfl, rfl, fun _ => trivial⟩
  · rename_i h
    simp [Intercom.isCalling] at h
    refine ⟨rfl, rfl, rfl, ?_⟩
    intro y
    split
    · rename_i h2
      obtain ⟨rfl, h2⟩ := h2
      have := h h2
      rw [← this]
    · rfl

/-- R127: a path that becomes FREE stops its timers and clears the deferral of the stations still CALLING. -/
theorem Intercom.freePath_spec (c : Intercom) :
    c.freePath.path = .free ∧ c.freePath.connectionTimer = 0 ∧ c.freePath.talkTimer = 0
      ∧ ∀ y, c.freePath.line y
          = if (c.line y).state = .calling then { c.line y with deferred := false } else c.line y := by
  unfold Intercom.freePath
  obtain ⟨a1, a2, a3, a4⟩ :=
    Intercom.soundDeferred_spec .left { c with path := .free, connectionTimer := 0, talkTimer := 0 }
  obtain ⟨b1, b2, b3, b4⟩ := Intercom.soundDeferred_spec .right
    ({ c with path := .free, connectionTimer := 0, talkTimer := 0 }.soundDeferred .left)
  refine ⟨by rw [b1, a1], by rw [b2, a2], by rw [b3, a3], ?_⟩
  have hl : ∀ z, ({ c with path := .free, connectionTimer := 0, talkTimer := 0 } : Intercom).line z = c.line z :=
    fun _ => rfl
  intro y
  rw [b4]
  simp only [a4, hl]
  cases y <;> simp

/-- R127: a cut leaves no tone; a station's line is as it was, or deferred where its queued tone waited on it CALLING. -/
theorem Intercom.cutTone_spec (c : Intercom) :
    c.cutTone.tone = none ∧ c.cutTone.path = c.path ∧ c.cutTone.connectionTimer = c.connectionTimer
      ∧ c.cutTone.talkTimer = c.talkTimer
      ∧ ∀ y, c.cutTone.line y = c.line y
          ∨ (c.cutTone.line y = { c.line y with deferred := true } ∧ (c.line y).state = .calling
              ∧ ∃ t, c.tone = some t ∧ t.queued = some y) := by
  unfold Intercom.cutTone
  split
  · rename_i h; exact ⟨h, rfl, rfl, rfl, fun _ => .inl rfl⟩
  · rename_i t ht
    split
    · exact ⟨rfl, rfl, rfl, rfl, fun _ => .inl rfl⟩
    · rename_i q hq
      split
      · rename_i h
        refine ⟨rfl, rfl, rfl, rfl, ?_⟩
        intro y
        by_cases e : y = q
        · subst e
          right
          simp [Intercom.isCalling] at h
          refine ⟨?_, h, t, ht, hq⟩
          rw [Intercom.onLine_line, if_pos rfl]; rfl
        · left
          rw [Intercom.onLine_line, if_neg e]; rfl
      · exact ⟨rfl, rfl, rfl, rfl, fun _ => .inl rfl⟩

/-- R127, R128: a station that leaves CALLING drops its timer, its deferral and its queued tone. -/
theorem Intercom.leaveCalling_spec (x : Station) (c : Intercom) :
    (c.leaveCalling x).path = c.path ∧ (c.leaveCalling x).connectionTimer = c.connectionTimer
      ∧ (c.leaveCalling x).talkTimer = c.talkTimer
      ∧ (∀ t, (c.leaveCalling x).tone = some t → t.queued ≠ some x)
      ∧ ∀ y, (c.leaveCalling x).line y
          = if y = x then { c.line y with callTimer := 0, deferred := false } else c.line y := by
  unfold Intercom.leaveCalling Intercom.dropQueued
  refine ⟨rfl, rfl, rfl, ?_, ?_⟩
  · intro t ht
    simp at ht
    obtain ⟨a, _, h⟩ := ht
    subst h
    split <;> simp_all
  · intro y; cases x <;> cases y <;> rfl

/-- R122: a connection links the path, sets the connection timer and makes the station CONNECTED. -/
theorem Intercom.connect_spec (x : Station) (c : Intercom) :
    (c.connect x).path = .linked x ∧ (c.connect x).connectionTimer = 180 ∧ (c.connect x).tone = c.tone
      ∧ ∀ y, (c.connect x).line y
          = if y = x then { c.line y with state := .connected, fareChime := none } else c.line y := by
  refine ⟨rfl, rfl, rfl, ?_⟩
  intro y; cases x <;> cases y <;> rfl

/-- R135: the fare chimes of a set are cut off. -/
theorem Intercom.silenceAll_line (g : StationSet) (c : Intercom) (y : Station) :
    (c.silenceAll g).line y = if g.has y = true then { c.line y with fareChime := none } else c.line y := by
  cases g <;> cases y <;> rfl

/-- R23: unbinding one station makes it IDLE with privacy off and its call over, and touches neither the other station's
line nor the path. -/
theorem Intercom.unbindOne_spec (x : Station) (c : Intercom) :
    (c.unbindOne x).path = c.path ∧ (c.unbindOne x).connectionTimer = c.connectionTimer
      ∧ (c.unbindOne x).talkTimer = c.talkTimer
      ∧ ∀ y, (c.unbindOne x).line y
          = if y = x then { c.line y with state := .idle, privacy := false, callTimer := 0, deferred := false }
            else c.line y := by
  refine ⟨rfl, rfl, rfl, ?_⟩
  intro y; cases x <;> cases y <;> rfl

/-- R135: a fare chime requested at one station sounds its 40 periods there unless the driver is heard there, and touches
nothing else. -/
theorem Intercom.chime_spec (kind : ChimeKind) (x : Station) (c : Intercom) :
    (c.chime kind x).tone = c.tone ∧ (c.chime kind x).path = c.path
      ∧ ∀ y, (c.chime kind x).line y
          = if y = x ∧ c.isConnected x = false ∧ c.inTalk x = false then
              { c.line y with fareChime := some { kind := kind, left := 40 } }
            else c.line y := by
  unfold Intercom.chime
  cases h : (c.isConnected x || c.inTalk x)
  · rw [Bool.or_eq_false_iff] at h
    exact ⟨rfl, rfl, fun y => by cases x <;> cases y <;> simp [h] <;> rfl⟩
  · refine ⟨rfl, rfl, fun y => (if_neg ?_).symm⟩
    rintro ⟨-, h1, h2⟩
    simp [h1, h2] at h

/-! ### One 50 ms period (R127, R135) -/

/-- R127: the end of a call chime leaves everything but the tone. -/
theorem Intercom.endTone_frame (c : Intercom) :
    c.endTone.stations = c.stations ∧ c.endTone.path = c.path ∧ c.endTone.connectionTimer = c.connectionTimer
      ∧ c.endTone.talkTimer = c.talkTimer := by
  unfold Intercom.endTone
  repeat' split
  all_goals exact ⟨rfl, rfl, rfl, rfl⟩

/-- R127, R135: one period of the chimes keeps the path and its timers, and of each line all but its fare chime. -/
theorem Intercom.period_spec (c : Intercom) :
    c.period.path = c.path ∧ c.period.connectionTimer = c.connectionTimer ∧ c.period.talkTimer = c.talkTimer
      ∧ ∀ y, c.period.line y = { c.line y with fareChime := chimeTick (c.line y).fareChime } := by
  have h : ∀ d : Intercom, d.tonePeriod.stations = d.stations ∧ d.tonePeriod.path = d.path
      ∧ d.tonePeriod.connectionTimer = d.connectionTimer ∧ d.tonePeriod.talkTimer = d.talkTimer := by
    intro d
    unfold Intercom.tonePeriod
    repeat' split
    · exact ⟨rfl, rfl, rfl, rfl⟩
    · exact d.endTone_frame
    · exact ⟨rfl, rfl, rfl, rfl⟩
  unfold Intercom.period
  obtain ⟨h1, h2, h3, h4⟩ := h (c.onLines (fun l => { l with fareChime := chimeTick l.fareChime }))
  refine ⟨h2, h3, h4, fun y => ?_⟩
  unfold Intercom.line; rw [h1]; cases y <;> rfl

/-- R127: what the end of a tone leaves of the tone rests on the tone, the path and who is CALLING. -/
theorem Intercom.endTone_congr {c d : Intercom} (h : d.tone = c.tone) (hp : d.path = c.path)
    (hc : ∀ y, d.isCalling y = c.isCalling y) : d.endTone.tone = c.endTone.tone := by
  unfold Intercom.endTone
  rw [h]
  split
  · rename_i e; simp [h, e]
  · split
    · rfl
    · rw [hp, hc]; split <;> rfl

/-- R127: the tone after one period is that of the tone's own period: the fare chimes have no part in it. -/
theorem Intercom.period_tone (c : Intercom) : c.period.tone = c.tonePeriod.tone := by
  have h : ∀ d : Intercom, d.tone = c.tone → d.path = c.path → (∀ y, d.isCalling y = c.isCalling y) →
      d.tonePeriod.tone = c.tonePeriod.tone := by
    intro d h hp hc
    unfold Intercom.tonePeriod
    rw [h]
    split
    · rename_i e; simp [h, e]
    · split
      · exact Intercom.endTone_congr h hp hc
      · rfl
  exact h _ rfl rfl (fun y => by cases y <;> rfl)

/-- R135: the periods a fare chime has sounded are taken from those it has left, and it is silent at its last. -/
theorem chimeTick_iterate (f : FareChime) (h : 0 < f.left) (n : Nat) :
    chimeTick^[n] (some f) = if n < f.left then some { f with left := f.left - n } else none := by
  induction n with
  | zero => simp [h]
  | succ n ih =>
    rw [Function.iterate_succ_apply', ih]
    split
    · unfold chimeTick
      dsimp only
      split
      · rw [if_neg (by omega)]
      · rw [if_pos (by omega)]; congr 2
    · rw [if_neg (by omega)]; rfl

end Sys2Proof.Machine
end

