-- ==== Sys2Proof/Laws/Taking.lean ====
section
/-! SUPPORT. What the shared operations do, each said once: taking a command or a message, the slot checks, the derivation
of the sign, the posting of a notice, the bytes of a read, and the saturating rise. -/

namespace Sys2Proof.Machine

/-! ### The sign -/

@[simp] theorem State.onDash_deriveSign (f : DashLink → DashLink) (s : State) :
    (s.onDash f).deriveSign = s.deriveSign := rfl

@[simp] theorem State.onLink_deriveSign (f : PartitionLink → PartitionLink) (s : State) :
    (s.onLink f).deriveSign = s.deriveSign := rfl

@[simp] theorem State.onIc_deriveSign (f : Intercom → Intercom) (s : State) : (s.onIc f).deriveSign = s.deriveSign := rfl

@[simp] theorem State.onCal_deriveSign (f : Calendar → Calendar) (s : State) : (s.onCal f).deriveSign = s.deriveSign := rfl

@[simp] theorem State.onDist_deriveSign (f : Distance → Distance) (s : State) :
    (s.onDist f).deriveSign = s.deriveSign := rfl

@[simp] theorem State.onStore_deriveSign (f : Store → Store) (s : State) : (s.onStore f).deriveSign = s.deriveSign := rfl

@[simp] theorem State.count_deriveSign (f : Totalizers → Totalizers) (s : State) :
    (s.count f).deriveSign = s.deriveSign := rfl

/-- The lamps follow a change to any sign state. -/
@[simp] theorem Sign.change_shown (new : SignState) (g : Sign) : (g.change new).shown = new := by
  unfold Sign.change; split
  · rename_i h; exact h.symm
  · rfl

@[simp] theorem Sign.change_latch (new : SignState) (g : Sign) : (g.change new).latch = g.latch := by
  unfold Sign.change; split <;> rfl

@[simp] theorem Sign.change_duty (new : SignState) (g : Sign) : (g.change new).duty = g.duty := by
  unfold Sign.change; split <;> rfl

@[simp] theorem Sign.change_shareAccept (new : SignState) (g : Sign) : (g.change new).shareAccept = g.shareAccept := by
  unfold Sign.change; split <;> rfl

/-- The derivation does not read the sign state shown, nor the lamps. -/
theorem State.deriveSign_congr {s t : State} (hs : s.slots = t.slots) (hp : s.supply.power = t.supply.power)
    (hl : s.sign.latch = t.sign.latch) (hd : s.sign.duty = t.sign.duty) (ha : s.sign.shareAccept = t.sign.shareAccept)
    (hh : s.shiftIsOpen = t.shiftIsOpen) : s.deriveSign = t.deriveSign := by
  have h1 : s.anyActive = t.anyActive := by unfold State.anyActive; rw [hs]
  have h2 : s.activeCount = t.activeCount := by unfold State.activeCount; rw [hs]
  have h3 : s.anyFree = t.anyFree := by unfold State.anyFree; rw [hs]
  unfold State.deriveSign
  rw [hp, hl, hd, ha, hh, h1, h2, h3, hs]

@[simp] theorem State.onSign_change_deriveSign (new : SignState) (s : State) :
    (s.onSign (·.change new)).deriveSign = s.deriveSign :=
  State.deriveSign_congr rfl rfl (Sign.change_latch new s.sign) (Sign.change_duty new s.sign)
    (Sign.change_shareAccept new s.sign) rfl

/-- A derivation made again changes nothing where the sign already follows (R141). -/
theorem State.followSign_of_follows {s : State} (h : SignFollows s) : s.followSign = s := if_pos h.symm

/-- After a derivation the sign state is the one its inputs give (R141). -/
theorem State.followSign_follows (s : State) : SignFollows s.followSign := by
  unfold State.followSign SignFollows
  split
  · rename_i h; exact h.symm
  · simp

/-! ### Commands and messages -/

/-- The bytes of a command that is not taken change the count of a frame in progress, and nothing else of the link. -/
theorem DashLink.ignore_eq (bytes : Nat) (d : DashLink) :
    d.ignore bytes = { d with counted := if d.frame = .idle then d.counted else d.counted + bytes } := by
  unfold DashLink.ignore
  by_cases h : d.frame = .idle <;> simp only [h, if_true, if_false]
  rw [← h]

@[simp] theorem DashLink.ignore_frame (bytes : Nat) (d : DashLink) : (d.ignore bytes).frame = d.frame := by
  rw [DashLink.ignore_eq]

@[simp] theorem DashLink.ignore_watch (bytes : Nat) (d : DashLink) : (d.ignore bytes).watch = d.watch := by
  rw [DashLink.ignore_eq]

@[simp] theorem DashLink.ignore_events (bytes : Nat) (d : DashLink) : (d.ignore bytes).events = d.events := by
  rw [DashLink.ignore_eq]

@[simp] theorem DashLink.ignore_mask (bytes : Nat) (d : DashLink) : (d.ignore bytes).mask = d.mask := by
  rw [DashLink.ignore_eq]

@[simp] theorem DashLink.ignore_drstLow (bytes : Nat) (d : DashLink) : (d.ignore bytes).drstLow = d.drstLow := by
  rw [DashLink.ignore_eq]

/-- What taking a command can do: outside an open command frame its bytes are ignored; within one, the command's effect,
its answer in the frame, and the sign derived again. -/
theorem takeCommand_cases (args : Nat) (body : State → Reply × State) (s : State) :
    (s.serves = false ∧ takeCommand args body s = s.onDash (·.ignore (args + 1))) ∨
    (s.serves = true ∧ takeCommand args body s = (((body s).2).answerFrame args (body s).1).followSign) := by
  unfold takeCommand
  cases h : s.serves <;> simp

/-- A served command that leaves the state as it was, but for its answer. -/
theorem takeCommand_of_unchanged {args : Nat} {body : State → Reply × State} {s : State} {r : Reply}
    (h : s.serves = true) (hf : SignFollows s) (hb : body s = (r, s)) :
    takeCommand args body s = s.answerFrame args r := by
  unfold takeCommand
  rw [if_pos h, hb]
  exact State.followSign_of_follows hf

/-- What taking a message can do: nothing outside ACTIVE; in it, the message's effect and the sign derived again. -/
theorem takeMessage_cases (body : State → State) (s : State) :
    (s.supply.power ≠ .active ∧ takeMessage body s = s) ∨
    (s.supply.power = .active ∧ takeMessage body s = (body s).followSign) := by
  unfold takeMessage
  by_cases h : s.supply.power = .active <;> simp [h]

/-- What the slot checks of a command can do (R5). -/
theorem withSlot_cases (length : Nat) (slot : Byte) (s : State) (f : Fin 4 → Trip → Reply × State) :
    (slotArg slot = none ∧ withSlot length slot s f = refuse length .badArg s) ∨
    (∃ i, slotArg slot = some i ∧ s.slot i = none ∧ withSlot length slot s f = refuse length .badState s) ∨
    (∃ i t, slotArg slot = some i ∧ s.slot i = some t ∧ withSlot length slot s f = f i t) := by
  unfold withSlot
  cases h : slotArg slot with
  | none => exact .inl ⟨rfl, rfl⟩
  | some i =>
    cases h' : s.slot i with
    | none => exact .inr (.inl ⟨i, rfl, h', by simp [h']⟩)
    | some t => exact .inr (.inr ⟨i, t, rfl, h', by simp [h']⟩)

/-- A fare found by its trip number is in the slot that holds that number. -/
theorem State.findTrip_some {s : State} {n : Nat} {i : Fin 4} (h : s.findTrip n = some i) :
    n ≠ 0 ∧ ∃ t, s.slot i = some t ∧ t.number = n := by
  unfold State.findTrip at h
  split at h
  · cases h
  · rename_i hn
    refine ⟨hn, ?_⟩
    have := List.find?_some h
    cases hs : s.slot i with
    | none => simp [hs] at this
    | some t => exact ⟨t, rfl, by simpa [hs] using this⟩

/-- What the first checks of a message that names a fare can do (R103). -/
theorem withFare_cases (x : Station) (kind : Byte) (n : Nat) (s : State) (f : Fin 4 → Trip → State) :
    (withFare x kind n s f = s.deny x kind .noFare none) ∨
    (∃ i t, s.slot i = some t ∧ t.number = n ∧ t.stations.has x = false
      ∧ withFare x kind n s f = s.deny x kind .stationMismatch (some t)) ∨
    (∃ i t, s.slot i = some t ∧ t.number = n ∧ t.stations.has x = true ∧ withFare x kind n s f = f i t) := by
  unfold withFare
  cases h : s.findTrip n with
  | none => exact .inl rfl
  | some i =>
    obtain ⟨-, t, ht, hn⟩ := State.findTrip_some h
    simp only [ht]
    cases hx : t.stations.has x with
    | true => exact .inr (.inr ⟨i, t, ht, hn, hx, by simp⟩)
    | false => exact .inr (.inl ⟨i, t, ht, hn, hx, by simp⟩)

/-! ### Notices -/

/-- R188: what posting a notice can do to the two slots. -/
theorem PartitionLink.post_notices (p : PartitionLink) (x : Station) (n : Notice) :
    (p.post x n).notices = if givesWay (p.notices.get x) n then p.notices.set x (some n) else p.notices := by
  unfold PartitionLink.post
  split <;> simp_all [PartitionLink.put]

@[simp] theorem PartitionLink.post_selector (p : PartitionLink) (x : Station) (n : Notice) :
    (p.post x n).selector = p.selector := by
  unfold PartitionLink.post; split <;> rfl

/-- R187: a read of `clocked` bytes returns the first of the sixteen bytes of the notice it copied, and 0xFF for every
byte after them. -/
theorem NoticeRead.bytes_eq (clocked : Nat) (r : NoticeRead) :
    r.bytes clocked = (noticeBytes r.station r.copy ++ List.replicate clocked 0xFF).take clocked := by
  apply List.ext_getElem?
  intro n
  simp only [NoticeRead.bytes, List.getElem?_map, List.getElem?_take]
  by_cases h : n < clocked
  · have hr : (List.range clocked)[n]? = some n := by simp [h]
    rw [hr, if_pos h]
    by_cases hk : n < (noticeBytes r.station r.copy).length
    · rw [List.getElem?_append_left hk]
      simp [NoticeRead.outByte, List.getD, hk]
    · have hb : n - (noticeBytes r.station r.copy).length < clocked := by omega
      rw [List.getElem?_append_right (by omega)]
      simp [NoticeRead.outByte, List.getD, List.getElem?_eq_none (by omega : (noticeBytes r.station r.copy).length ≤ n),
        hb]
  · have hr : (List.range clocked)[n]? = none := by simp; omega
    rw [hr, if_neg h]; rfl

/-! ### Counts -/

/-- A saturating rise stays a 32-bit count. -/
theorem satAdd_le (a b : Nat) : satAdd a b ≤ 4294967295 := Nat.min_le_right _ _

/-- A saturating rise of a 32-bit count does not lower it. -/
theorem le_satAdd {a : Nat} (b : Nat) (h : a ≤ 4294967295) : a ≤ satAdd a b :=
  Nat.le_min.mpr ⟨Nat.le_add_right a b, h⟩

/-! ### Records -/

@[simp] theorem Trip.recompute_totalDue (t : Trip) : t.recompute.totalDue = t.flagFall + t.stepTotal + t.extrasTotal := rfl

/-- R34, R35: a step leaves the record's number, state, stations and extras as they were. -/
theorem takeStep_frame (amount : Nat) (t : Trip) :
    (takeStep amount t).number = t.number ∧ (takeStep amount t).state = t.state
      ∧ (takeStep amount t).stations = t.stations ∧ (takeStep amount t).extras = t.extras
      ∧ (takeStep amount t).flagFall = t.flagFall ∧ (takeStep amount t).extrasTotal = t.extrasTotal
      ∧ (takeStep amount t).segments = t.segments ∧ (takeStep amount t).window = t.window
      ∧ (takeStep amount t).payment = t.payment ∧ (takeStep amount t).share = t.share
      ∧ (takeStep amount t).progress = t.progress ∧ (takeStep amount t).remainder = t.remainder
      ∧ (takeStep amount t).hiredMetres = t.hiredMetres ∧ (takeStep amount t).hiredSeconds = t.hiredSeconds := by
  unfold takeStep; repeat' split
  all_goals simp [Trip.recompute]

/-- R34: the steps of a second leave what one step leaves. -/
theorem takeSteps_frame (amount n : Nat) (t : Trip) :
    (takeSteps amount n t).number = t.number ∧ (takeSteps amount n t).state = t.state
      ∧ (takeSteps amount n t).stations = t.stations ∧ (takeSteps amount n t).extras = t.extras
      ∧ (takeSteps amount n t).flagFall = t.flagFall ∧ (takeSteps amount n t).extrasTotal = t.extrasTotal
      ∧ (takeSteps amount n t).segments = t.segments ∧ (takeSteps amount n t).window = t.window
      ∧ (takeSteps amount n t).payment = t.payment ∧ (takeSteps amount n t).share = t.share
      ∧ (takeSteps amount n t).progress = t.progress ∧ (takeSteps amount n t).remainder = t.remainder
      ∧ (takeSteps amount n t).hiredMetres = t.hiredMetres ∧ (takeSteps amount n t).hiredSeconds = t.hiredSeconds := by
  induction n generalizing t with
  | zero => simp [takeSteps]
  | succ n ih =>
    have a := ih (takeStep amount t)
    have b := takeStep_frame amount t
    simp only [takeSteps]
    simp only [b] at a
    exact a

/-- R34: the steps of a second do not read the progress or the remainder, and keep them. -/
theorem takeSteps_progress (amount n : Nat) (t : Trip) (p r : Nat) :
    takeSteps amount n { t with progress := p, remainder := r }
      = { takeSteps amount n t with progress := p, remainder := r } := by
  induction n generalizing t with
  | zero => rfl
  | succ n ih =>
    have e : takeStep amount { t with progress := p, remainder := r }
        = { takeStep amount t with progress := p, remainder := r } := by
      unfold takeStep; simp only []; repeat' split
      all_goals rfl
    simp only [takeSteps, e, ih]

/-- R2: a step keeps the total due the sum of its parts. -/
theorem takeStep_due (amount : Nat) (t : Trip) (h : t.totalDue = t.flagFall + t.stepTotal + t.extrasTotal) :
    (takeStep amount t).totalDue
      = (takeStep amount t).flagFall + (takeStep amount t).stepTotal + (takeStep amount t).extrasTotal := by
  unfold takeStep; repeat' split
  · exact h
  · rfl
  · rfl

/-- R35: a step keeps the total due at or below the cap. -/
theorem takeStep_le (amount : Nat) (t : Trip) (h : t.totalDue = t.flagFall + t.stepTotal + t.extrasTotal)
    (hc : t.totalDue ≤ dueMax) : (takeStep amount t).totalDue ≤ dueMax := by
  unfold takeStep; repeat' split
  · exact hc
  · simp [Trip.recompute, Trip.dueSum]; omega
  · simp [Trip.recompute, Trip.dueSum]; omega

end Sys2Proof.Machine
end

