-- ==== Sys2Proof/Laws/Slots.lean ====
section
/-! SUPPORT. The slots under the shared operations: what writing a slot, the hold warning check, the engine, a tariff
switch and an evaluation do to each record, which RELEASE_HOLD is posted again for a station, what the sign derives from
the slots, and how a record is found. -/

namespace Sys2Proof.Machine

/-! ### Reading and writing a slot -/

theorem Four.get_set_self {α : Type} (q : Four α) (i : Fin 4) (x : α) : (q.set i x).get i = x := by
  fin_cases i <;> rfl

theorem Four.get_set_ne {α : Type} (q : Four α) {i j : Fin 4} (h : j ≠ i) (x : α) : (q.set i x).get j = q.get j := by
  fin_cases i <;> fin_cases j <;> first | rfl | exact absurd rfl h

@[simp] theorem State.putSlot_slot_self (i : Fin 4) (x : Option Trip) (s : State) : (s.putSlot i x).slot i = x :=
  Four.get_set_self _ _ _

theorem State.putSlot_slot_ne {i j : Fin 4} (h : j ≠ i) (x : Option Trip) (s : State) :
    (s.putSlot i x).slot j = s.slot j :=
  Four.get_set_ne _ h _

/-- A change of each slot's record, slot by slot, is the change of the four records. -/
theorem forSlots_modSlot (f : Trip → Trip) (s : State) :
    forSlots (fun i s => s.modSlot i f) s
      = { s with slots := ⟨s.slots.a0.map f, s.slots.a1.map f, s.slots.a2.map f, s.slots.a3.map f⟩ } := rfl

/-- A record is among those of the occupied slots when a slot holds it. -/
theorem State.mem_trips (s : State) (t : Trip) : t ∈ s.trips ↔ ∃ i, s.slot i = some t := by
  unfold State.trips State.slot Four.list
  simp only [List.mem_filterMap, id]
  constructor
  · rintro ⟨a, h, rfl⟩
    simp at h
    rcases h with h | h | h | h
    · exact ⟨0, h.symm⟩
    · exact ⟨1, h.symm⟩
    · exact ⟨2, h.symm⟩
    · exact ⟨3, h.symm⟩
  · rintro ⟨i, h⟩
    refine ⟨some t, ?_, rfl⟩
    rw [← h]
    fin_cases i <;> simp [Four.get]

/-- A search through the slots finds the one slot that meets its test. -/
theorem find_slotNumbers {p : Fin 4 → Bool} {i : Fin 4} (h : p i = true) (hu : ∀ j, p j = true → j = i) :
    slotNumbers.find? p = some i := by
  have e : p = fun j => decide (j = i) := by
    funext j
    by_cases hj : j = i
    · subst hj; simpa using h
    · simp [hj]; by_contra c; exact hj (hu j (by simpa using c))
  subst e
  fin_cases i <;> rfl

/-- R103: where trip numbers differ, an occupied slot is found by its trip number. -/
theorem State.findTrip_eq {s : State} {i : Fin 4} {t : Trip} (hd : TripNumbersDiffer s) (h : s.slot i = some t)
    (h0 : t.number ≠ 0) : s.findTrip t.number = some i := by
  unfold State.findTrip; rw [if_neg h0]
  refine find_slotNumbers (by simp [h]) ?_
  intro j hj
  cases e : s.slot j with
  | none => simp [e] at hj
  | some v =>
    simp [e] at hj
    by_contra c
    exact hd j i v t e h c hj

/-! ### The lowest trip number (R106, R189) -/

/-- The record found is of the list, and none has a lower trip number. -/
theorem lowestTrip_some {l : List Trip} {t : Trip} (h : lowestTrip l = some t) :
    t ∈ l ∧ ∀ v ∈ l, t.number ≤ v.number := by
  induction l generalizing t with
  | nil => simp [lowestTrip] at h
  | cons a l ih =>
    unfold lowestTrip at h
    cases hl : lowestTrip l with
    | none =>
      rw [hl] at h; simp at h; subst h
      have : l = [] := by
        cases l with
        | nil => rfl
        | cons b l =>
          unfold lowestTrip at hl
          split at hl
          · simp at hl
          · split at hl <;> simp at hl
      subst this; simp
    | some u =>
      rw [hl] at h; simp only at h
      obtain ⟨i1, i2⟩ := ih hl
      split at h <;> (simp at h; subst h)
      · refine ⟨by simp, fun v hv => ?_⟩
        rcases List.mem_cons.1 hv with e | e
        · subst e; omega
        · have := i2 v e; omega
      · refine ⟨by simp [i1], fun v hv => ?_⟩
        rcases List.mem_cons.1 hv with e | e
        · subst e; omega
        · exact i2 v e

/-- A record of the list is found. -/
theorem lowestTrip_isSome {l : List Trip} (h : l ≠ []) : ∃ t, lowestTrip l = some t := by
  cases l with
  | nil => exact absurd rfl h
  | cons a l =>
    unfold lowestTrip
    split
    · exact ⟨_, rfl⟩
    · split <;> exact ⟨_, rfl⟩

/-! ### The RELEASE_HOLD posted again (R189) -/

/-- R189: with no pending hold of the station nothing is posted again. -/
theorem State.repost_none {s : State} {x : Station}
    (h : ∀ i t g, s.slot i = some t → t.hold = some g → ¬ (g.state = .releasePending ∧ g.station = x)) :
    s.repost x = s := by
  have e : s.trips.filter (awaitsRelease x) = [] := by
    rw [List.filter_eq_nil_iff]
    intro t ht
    obtain ⟨i, hi⟩ := (State.mem_trips s t).1 ht
    unfold awaitsRelease
    cases hg : t.hold with
    | none => simp
    | some g => simpa using h i t g hi hg
  unfold State.repost; rw [e]; rfl

/-- R189: the pending hold of the station whose fare has the lowest trip number has its RELEASE_HOLD posted again. -/
theorem State.repost_lowest {s : State} {x : Station} {i : Fin 4} {t : Trip} {g : Hold} (ht : s.slot i = some t)
    (hg : t.hold = some g) (h1 : g.state = .releasePending) (h2 : g.station = x)
    (hl : ∀ j v k, s.slot j = some v → v.hold = some k → k.state = .releasePending → k.station = x → j ≠ i →
      t.number < v.number) :
    s.repost x = s.post x (.releaseHold t.number g.reference g.amount) := by
  have ha : awaitsRelease x t = true := by simp [awaitsRelease, hg, h1, h2]
  have hm : t ∈ s.trips.filter (awaitsRelease x) := List.mem_filter.2 ⟨(State.mem_trips s t).2 ⟨i, ht⟩, ha⟩
  obtain ⟨u, hu⟩ := lowestTrip_isSome (List.ne_nil_of_mem hm)
  obtain ⟨m1, m2⟩ := lowestTrip_some hu
  have e : u = t := by
    obtain ⟨m3, m4⟩ := List.mem_filter.1 m1
    obtain ⟨j, hj⟩ := (State.mem_trips s u).1 m3
    by_cases hji : j = i
    · subst hji; rw [ht] at hj; exact (Option.some.inj hj).symm
    · unfold awaitsRelease at m4
      cases hk : u.hold with
      | none => simp [hk] at m4
      | some k =>
        simp [hk] at m4
        have := hl j u k hj hk m4.1 m4.2 hji
        have := m2 t hm
        omega
  unfold State.repost
  rw [hu, e]
  simp [releaseNotice, hg]

/-- R189: posting at one station leaves the other station's slot as it was. -/
theorem State.repost_notices_other (x : Station) (s : State) :
    (s.repost x).link.notices.get x.other = s.link.notices.get x.other := by
  unfold State.repost
  split
  · simp only [State.post, State.onLink, PartitionLink.post]
    split
    · cases x <;> rfl
    · rfl
  · rfl

/-! ### The engine on one slot -/

/-- R105: what the hold warning check can do. -/
theorem State.holdWarning_cases (i : Fin 4) (s : State) :
    s.holdWarning i = s ∨ ∃ t h, s.slot i = some t ∧ t.hold = some h ∧ warningDue s.store.active t h = true
      ∧ s.holdWarning i = ((s.putSlot i (some (t.withHold { h with warned := true }))).post h.station
          (.topUp t.number t.totalDue h.reference h.amount)).raise .hold := by
  unfold State.holdWarning
  cases h1 : s.slot i with
  | none => exact .inl rfl
  | some t =>
    cases h2 : t.hold with
    | none => left; simp [h2]
    | some h =>
      by_cases hw : warningDue s.store.active t h = true
      · right; exact ⟨t, h, rfl, h2, hw, by simp [h2, hw]⟩
      · left; simp [h2, hw]

/-- R37: the engine leaves the new record in its slot, but for a hold it may mark as warned. -/
theorem State.engine_slot (i : Fin 4) (old new : Trip) (s : State) :
    ∃ u, (s.engine i old new).slot i = some u ∧ u.state = new.state ∧ u.window = new.window ∧ u.share = new.share
      ∧ u.number = new.number ∧ u.stations = new.stations ∧ u.totalDue = new.totalDue ∧ (new.hold = none → u = new) := by
  unfold State.engine
  split
  · exact ⟨new, by simp, by simp⟩
  · rcases State.holdWarning_cases i (s.putSlot i (some new)) with e | ⟨t, h, a, b, _, e⟩
    · rw [e]; exact ⟨new, by simp, by simp⟩
    · rw [e]; simp at a; subst a
      refine ⟨_, State.putSlot_slot_self i _ _, ?_⟩
      simp [Trip.withHold]; intro hh; simp [hh] at b

/-- A slot written twice holds the second record. -/
theorem State.putSlot_putSlot (i : Fin 4) (a b : Option Trip) (s : State) :
    (s.putSlot i a).putSlot i b = s.putSlot i b := by
  simp only [State.putSlot, State.onSlots]; fin_cases i <;> rfl

/-- R37, R105: with the step amount total kept or no warning due, the engine does no more than put the new record. -/
theorem State.engine_unwarned {i : Fin 4} {old new : Trip} {s : State}
    (h : ∀ g, new.hold = some g → ¬ (new.stepTotal ≠ old.stepTotal ∧ warningDue s.store.active new g = true)) :
    s.engine i old new = s.putSlot i (some new) := by
  unfold State.engine
  split
  · rfl
  · rename_i hne
    rcases State.holdWarning_cases i (s.putSlot i (some new)) with e | ⟨t, g, a, b, c, -⟩
    · exact e
    · rw [State.putSlot_slot_self] at a; cases a; exact absurd ⟨hne, c⟩ (h g b)

/-- R37, R105: with the step amount total changed and the warning due, the engine puts the new record with its hold warned,
posts TOP_UP and sets HOLD. -/
theorem State.engine_warned {i : Fin 4} {old new : Trip} {p : Payment} {g : Hold} {s : State} (hp : new.payment = some p)
    (hg : p.hold = some g) (hc : new.stepTotal ≠ old.stepTotal) (hd : warningDue s.store.active new g = true) :
    s.engine i old new
      = ((s.putSlot i (some { new with payment := some { p with hold := some { g with warned := true } } })).post g.station
          (.topUp new.number new.totalDue g.reference g.amount)).raise .hold := by
  have h : new.hold = some g := by simp [Trip.hold, hp, hg]
  unfold State.engine State.holdWarning
  rw [if_neg hc, State.putSlot_slot_self]
  dsimp only
  rw [h]
  dsimp only
  rw [if_pos (show warningDue (s.putSlot i (some new)).store.active new g = true from hd), State.putSlot_putSlot]
  simp only [Trip.withHold, hp, Option.map]

/-- The engine leaves every other slot as it was. -/
theorem State.engine_slot_ne {i j : Fin 4} (h : j ≠ i) (old new : Trip) (s : State) :
    (s.engine i old new).slot j = s.slot j := by
  unfold State.engine State.holdWarning
  repeat' split
  all_goals
    simp [State.slot, State.putSlot, State.onSlots, State.post, State.onLink, State.raise, State.onDash,
      Four.get_set_ne _ h]

/-- R39: the settlement of one slot's window leaves every other slot as it was. -/
theorem State.settleSlot_slot_ne {k : Nat} {i j : Fin 4} (h : j ≠ i) (s : State) :
    (s.settleSlot k i).slot j = s.slot j := by
  unfold State.settleSlot
  repeat' split
  all_goals first | rfl | exact State.engine_slot_ne h _ _ _

/-- R30: the credit of one slot leaves every other slot as it was. -/
theorem State.creditSlot_slot_ne {k : Nat} {i j : Fin 4} (h : j ≠ i) (s : State) :
    (s.creditSlot k i).slot j = s.slot j := by
  unfold State.creditSlot
  repeat' split
  all_goals first | rfl | exact State.engine_slot_ne h _ _ _

/-- R39: the settlement of a window leaves the record's state, share, payment and stations, and empties the window. -/
theorem settleWindow_frame (tar : Tariff) (k : Nat) (t : Trip) :
    (settleWindow tar k t).state = t.state ∧ (settleWindow tar k t).window = 0
      ∧ (settleWindow tar k t).share = t.share ∧ (settleWindow tar k t).payment = t.payment
      ∧ (settleWindow tar k t).stations = t.stations ∧ (settleWindow tar k t).number = t.number := by
  have := takeSteps_frame tar.stepAmount
  simp [settleWindow, countUp, charge, this]

/-- R30: a fare second leaves the record's state, share, payment and stations, and empties the window. -/
theorem creditSecond_frame (tar : Tariff) (k : Nat) (t : Trip) :
    (creditSecond tar k t).state = t.state ∧ (creditSecond tar k t).window = 0
      ∧ (creditSecond tar k t).share = t.share ∧ (creditSecond tar k t).payment = t.payment
      ∧ (creditSecond tar k t).stations = t.stations ∧ (creditSecond tar k t).number = t.number := by
  have := takeSteps_frame tar.stepAmount
  simp [creditSecond, countUp, charge, this]

/-- R43: a new segment leaves the record's state, share, number and total due. -/
theorem startSegment_frame (img : Image) (n : Nat) (now : Stamp) (t : Trip) :
    (startSegment img n now t).state = t.state ∧ (startSegment img n now t).share = t.share
      ∧ (startSegment img n now t).number = t.number ∧ (startSegment img n now t).totalDue = t.totalDue := by
  unfold startSegment; split <;> simp

/-! ### A tariff switch and an evaluation -/

/-- R41, R77: what a change of calendar tariff does to one slot. -/
theorem State.switchSlot_slot (n : Nat) (i j : Fin 4) (s : State) :
    (s.switchSlot n i).slot j = if j = i then (s.slot j).map (fun t =>
        if (t.state = .running ∨ t.state = .paused) ∧ t.lags n = true then
          startSegment s.store.active n s.cal.time t
        else t)
      else s.slot j := by
  unfold State.switchSlot State.modSlot
  by_cases e : j = i
  · subst e; simp
  · simp [State.putSlot_slot_ne e, e]

/-- R76, R77: what an evaluation can do: nothing, the deciding window, or a tariff switch. -/
theorem State.evaluate_cases (s : State) :
    s.evaluate = s ∨ (∃ d, s.evaluate = { s with cal := { s.cal with deciding := some d } })
      ∨ ∃ n d, s.cal.tariff ≠ some n ∧ s.evaluate = forSlots (State.switchSlot n)
          ((s.onCal (fun c => { c with tariff := some n, deciding := some d })).raise .tariffSwitch) := by
  unfold State.evaluate
  split
  · exact .inl rfl
  · unfold State.takeTariff
    split
    · exact .inr (.inl ⟨_, rfl⟩)
    · rename_i h; exact .inr (.inr ⟨_, _, h, rfl⟩)

/-- R41, R77: what a change of calendar tariff does to each slot, and that it touches no other block. -/
theorem State.forSwitch_slot (n : Nat) (j : Fin 4) (s : State) :
    (forSlots (State.switchSlot n) s).slot j = (s.slot j).map (fun t =>
      if (t.state = .running ∨ t.state = .paused) ∧ t.lags n = true then
        startSegment s.store.active n s.cal.time t
      else t) := by
  unfold forSlots
  simp only [State.switchSlot_slot]
  fin_cases j <;> simp

/-- R76, R77: an evaluation reads the calendar, the image of the schedule and the active image: where these are equal, so
are the calendars it leaves, and the records it leaves of equal records. -/
theorem State.evaluate_congr {s t : State} (hc : s.cal = t.cal) (hi : s.scheduleImage = t.scheduleImage)
    (ha : s.store.active = t.store.active) :
    s.evaluate.cal = t.evaluate.cal ∧ ∀ j, s.slot j = t.slot j → s.evaluate.slot j = t.evaluate.slot j := by
  unfold State.evaluate
  rw [hi]
  cases t.scheduleImage with
  | none => exact ⟨hc, fun _ h => h⟩
  | some img =>
    simp only [State.takeTariff, hc]
    split
    · exact ⟨by simp [State.onCal, hc], fun _ h => h⟩
    · refine ⟨by simp [forSlots, State.onCal, hc], fun j h => ?_⟩
      have e : ∀ (u : State) (c : Calendar → Calendar), ((u.onCal c).raise .tariffSwitch).slot j = u.slot j := fun _ _ => rfl
      simp only [State.forSwitch_slot, e, h]
      simp [State.raise, State.onDash, State.onCal, ha, hc]

/-- R77: an evaluation sets TARIFF_SWITCH exactly when it names another tariff. -/
theorem State.evaluate_dash (s : State) :
    s.evaluate.dash = if s.evaluate.cal.tariff = s.cal.tariff then s.dash else s.dash.raise .tariffSwitch := by
  unfold State.evaluate
  split
  · rw [if_pos rfl]
  · unfold State.takeTariff
    split
    · exact (if_pos rfl).symm
    · rename_i h
      rw [if_neg]
      · simp [forSlots]
      · simpa [forSlots] using Ne.symm h

/-- R43, R77: of a record an evaluation changes the segments with their flag, the progress and the remainder alone. -/
theorem State.evaluate_record {s : State} {j : Fin 4} {t : Trip} (h : s.slot j = some t) :
    ∃ u, s.evaluate.slot j = some u ∧ u = { t with
      segments := u.segments, segmentsFull := u.segmentsFull, progress := u.progress, remainder := u.remainder } := by
  rcases State.evaluate_cases s with e | ⟨d, e⟩ | ⟨n, d, _, e⟩ <;> rw [e]
  · exact ⟨t, h, rfl⟩
  · exact ⟨t, h, rfl⟩
  · rw [State.forSwitch_slot]
    have e2 : ∀ c : Calendar → Calendar, ((s.onCal c).raise .tariffSwitch).slot j = s.slot j := fun _ => rfl
    rw [e2, h]
    refine ⟨_, rfl, ?_⟩
    dsimp only
    split
    · unfold startSegment; split <;> rfl
    · rfl

/-! ### What the sign derives from the slots -/

/-- What the derivation of the sign reads of a record. -/
def Trip.shape (t : Trip) : Bool × Bool := (t.state.isActive, t.share)

/-- R140: states whose records have the same shape, with the same inputs beside them, derive the same sign state. -/
theorem State.deriveSign_of_shapes {s t : State} (hp : s.supply.power = t.supply.power)
    (hl : s.sign.latch = t.sign.latch) (hd : s.sign.duty = t.sign.duty) (ha : s.sign.shareAccept = t.sign.shareAccept)
    (hh : s.shiftIsOpen = t.shiftIsOpen) (h : ∀ i, (s.slot i).map Trip.shape = (t.slot i).map Trip.shape) :
    s.deriveSign = t.deriveSign := by
  have e : ∀ i, activeSlot (s.slot i) = activeSlot (t.slot i) ∧ (s.slot i).isNone = (t.slot i).isNone
      ∧ sharesOrIdle (s.slot i) = sharesOrIdle (t.slot i) := by
    intro i
    have := h i
    cases h1 : s.slot i <;> cases h2 : t.slot i <;> simp [h1, h2, Trip.shape] at this
      <;> simp [activeSlot, sharesOrIdle, this]
  have e0 := e 0
  have e1 := e 1
  have e2 := e 2
  have e3 := e 3
  simp only [State.slot, Four.get] at e0 e1 e2 e3
  have h1 : s.anyActive = t.anyActive := by simp [State.anyActive, Four.list, e0, e1, e2, e3]
  have h2 : s.activeCount = t.activeCount := by
    simp only [State.activeCount, Four.list, List.countP_cons, e0, e1, e2, e3]
  have h3 : s.anyFree = t.anyFree := by simp [State.anyFree, Four.list, e0, e1, e2, e3]
  have h4 : s.slots.list.all sharesOrIdle = t.slots.list.all sharesOrIdle := by
    simp [Four.list, e0, e1, e2, e3]
  unfold State.deriveSign
  rw [hp, hl, hd, ha, hh, h1, h2, h3, h4]

/-- A record replaced by one of the same shape leaves the shapes of the slots. -/
theorem State.putSlot_shapes {s : State} {i : Fin 4} {t u : Trip} (h : s.slot i = some t) (hu : u.shape = t.shape)
    (j : Fin 4) : ((s.putSlot i (some u)).slot j).map Trip.shape = (s.slot j).map Trip.shape := by
  by_cases e : j = i
  · subst e; simp [h, hu]
  · rw [State.putSlot_slot_ne e]

/-- A hold warning leaves the shapes of the slots. -/
theorem State.holdWarning_shapes (i j : Fin 4) (s : State) :
    ((s.holdWarning i).slot j).map Trip.shape = (s.slot j).map Trip.shape := by
  rcases State.holdWarning_cases i s with e | ⟨t, h, a, _, _, e⟩ <;> rw [e]
  exact State.putSlot_shapes (u := t.withHold { h with warned := true }) a rfl j

/-- An evaluation leaves the shapes of the slots. -/
theorem State.evaluate_shapes (s : State) (j : Fin 4) :
    (s.evaluate.slot j).map Trip.shape = (s.slot j).map Trip.shape := by
  have k : ∀ (n : Nat) (i : Fin 4) (s : State),
      ((s.switchSlot n i).slot j).map Trip.shape = (s.slot j).map Trip.shape := by
    intro n i s
    rw [State.switchSlot_slot]
    split
    · cases s.slot j with
      | none => rfl
      | some t =>
        simp only [Option.map_some]
        split
        · simp [Trip.shape, startSegment_frame]
        · rfl
    · rfl
  rcases State.evaluate_cases s with e | ⟨d, e⟩ | ⟨n, d, _, e⟩ <;> rw [e]
  · rfl
  · unfold forSlots; simp only [k]; rfl

/-- An evaluation leaves the sign's derivation as it was. -/
@[simp] theorem State.evaluate_deriveSign (s : State) : s.evaluate.deriveSign = s.deriveSign := by
  refine State.deriveSign_of_shapes ?_ ?_ ?_ ?_ ?_ (State.evaluate_shapes s)
  · simp
  · simp
  · simp
  · simp
  · simp [State.shiftIsOpen]

end Sys2Proof.Machine
end

