-- ==== Sys2Proof/Laws/Rollover.lean ====
section
/-! SUPPORT. The parts of a second rollover, each said once: what the fare timers do to a record, what a call timer and the
path's timer do to the intercom and the shift, and that no part of it clears a pending event. -/

namespace Sys2Proof.Machine

/-! ### The timers of a fare (R12, R108) -/

/-- R12: the reopen graces count, slot by slot. -/
theorem forGrace_slot (j : Fin 4) (s : State) :
    (forSlots graceTick s).slot j = (s.slot j).map (fun t =>
      if t.state = .stopped ∨ t.state = .settling then { t with grace := t.grace.map Grace.tick } else t) := by
  fin_cases j <;> rfl

/-- R108: what a rollover makes of one record at its payment timer. -/
def Trip.paymentTicked (t : Trip) : Trip :=
  if t.state = .settling then
    if t.paymentOrNew.timer ≤ 1 then t.endPayment .timedOut 0
    else { t with payment := t.payment.map (fun p => { p with timer := p.timer - 1 }) }
  else t

/-- R108: a rollover at one slot's payment timer, as every slot sees it. -/
theorem State.paymentTick_slot (i j : Fin 4) (s : State) :
    (s.paymentTick i).slot j = if j = i then (s.slot j).map Trip.paymentTicked else s.slot j := by
  by_cases e : j = i
  · subst e
    rw [if_pos rfl]
    unfold State.paymentTick
    cases h : s.slot j with
    | none => simpa using h
    | some t =>
      simp only [Option.map_some]
      unfold Trip.paymentTicked
      split
      · split
        · have k : ∀ (g : StationSet) (n : Notice) (u : State), (u.postAll g n).slot j = u.slot j := by
            intro g n u; cases g <;> rfl
          simp only [State.paymentExpires, State.postDue, k]
          exact State.putSlot_slot_self _ _ _
        · exact State.putSlot_slot_self _ _ _
      · exact h
  · rw [if_neg e]
    unfold State.paymentTick
    split
    · rfl
    · split
      · split
        · have k : ∀ (g : StationSet) (n : Notice) (u : State), (u.postAll g n).slot j = u.slot j := by
            intro g n u; cases g <;> rfl
          simp only [State.paymentExpires, State.postDue, k]
          exact State.putSlot_slot_ne e _ _
        · exact State.putSlot_slot_ne e _ _
      · rfl

/-- R12, R108: what a rollover's fare timers make of each record. -/
theorem State.fareTimers_slot (j : Fin 4) (s : State) :
    s.fareTimers.slot j = (s.slot j).map (fun t => Trip.paymentTicked
      (if t.state = .stopped ∨ t.state = .settling then { t with grace := t.grace.map Grace.tick } else t)) := by
  have h : ∀ u : State, (forSlots State.paymentTick u).slot j = (u.slot j).map Trip.paymentTicked := by
    intro u
    unfold forSlots
    simp only [State.paymentTick_slot]
    fin_cases j <;> simp
  unfold State.fareTimers
  rw [h, forGrace_slot, Option.map_map]
  rfl

/-- R108: a payment timer's rollover leaves a fare active or not as it was. -/
theorem State.fareTimers_active (j : Fin 4) (s : State) : activeSlot (s.fareTimers.slot j) = activeSlot (s.slot j) := by
  rw [State.fareTimers_slot]
  cases s.slot j with
  | none => rfl
  | some t =>
    simp only [Option.map_some, activeSlot, Trip.paymentTicked]
    cases h : t.state <;> simp [h]
    split
    · rfl
    · simp

/-! ### The timers of the intercom (R128, R132, R134) -/

/-- R128: what a rollover at the call timer of a station makes of the intercom. -/
def Intercom.callTicked (x : Station) (c : Intercom) : Intercom :=
  if c.isCalling x then
    if (c.line x).callTimer ≤ 1 then (c.leaveCalling x).makeIdle x
    else c.onLine x (fun l => { l with callTimer := l.callTimer - 1 })
  else c

/-- R128: a rollover at a call timer is the intercom's own, but for the missed call of its expiry. -/
theorem State.callTick_eq (x : Station) (s : State) :
    (s.callTick x).ic = s.ic.callTicked x
      ∧ (s.callTick x).shift = (if s.ic.isCalling x = true ∧ (s.ic.line x).callTimer ≤ 1 then
          s.shift.map (fun sh => { sh with missedCalls := satAdd sh.missedCalls 1 }) else s.shift)
      ∧ (s.callTick x).dash = (if s.ic.isCalling x = true ∧ (s.ic.line x).callTimer ≤ 1 then
          s.dash.raise .callMissed else s.dash) := by
  unfold State.callTick Intercom.callTicked
  by_cases h : s.ic.isCalling x = true
  · by_cases h2 : (s.ic.line x).callTimer ≤ 1
    · simp only [h, h2, if_true, and_self]; exact ⟨rfl, rfl, rfl⟩
    · simp only [h, h2, if_true, if_false, and_false]; exact ⟨rfl, rfl, rfl⟩
  · simp only [h, false_and, if_false, Bool.false_eq_true]; exact ⟨trivial, trivial, trivial⟩

/-- R128: what a rollover at a call timer makes of each station's line; the path and its timers are untouched. -/
theorem Intercom.callTicked_spec (x : Station) (c : Intercom) :
    (c.callTicked x).path = c.path ∧ (c.callTicked x).connectionTimer = c.connectionTimer
      ∧ (c.callTicked x).talkTimer = c.talkTimer
      ∧ ((c.isCalling x = true → 1 < (c.line x).callTimer) → (c.callTicked x).tone = c.tone)
      ∧ ∀ y, (c.callTicked x).line y
          = if y = x ∧ c.isCalling x = true then
              if (c.line x).callTimer ≤ 1 then { c.line y with state := .idle, callTimer := 0, deferred := false }
              else { c.line y with callTimer := (c.line y).callTimer - 1 }
            else c.line y := by
  unfold Intercom.callTicked
  by_cases h : c.isCalling x = true
  · by_cases h2 : (c.line x).callTimer ≤ 1
    · simp only [h, h2, if_true, and_true]
      refine ⟨rfl, rfl, rfl, fun k => absurd (k trivial) (by omega), ?_⟩
      intro y; cases x <;> cases y <;> rfl
    · simp only [h, h2, if_true, if_false, and_true]
      refine ⟨rfl, rfl, rfl, fun _ => rfl, ?_⟩
      intro y; cases x <;> cases y <;> rfl
  · simp [h]

/-- R132, R134: what a rollover at the path's timer makes of the intercom. -/
def Intercom.pathTicked (c : Intercom) : Intercom :=
  match c.path with
  | .linked _ => c.connectionTick
  | .talk _ => c.talkTick
  | .free => c

/-- The intercom's part of a rollover: the call timers, then the path's timer. -/
theorem State.intercomTick_ic (s : State) :
    s.intercomTick.ic = ((s.ic.callTicked .left).callTicked .right).pathTicked := by
  unfold State.intercomTick
  have h := (State.callTick_eq .right (s.callTick .left)).1
  rw [(State.callTick_eq .left s).1] at h
  rw [← h]; rfl

/-- R128: both call timers of a rollover, line by line. -/
theorem Intercom.callsTicked_line (c : Intercom) (y : Station) :
    ((c.callTicked .left).callTicked .right).line y
      = if c.isCalling y = true then
          if (c.line y).callTimer ≤ 1 then { c.line y with state := .idle, callTimer := 0, deferred := false }
          else { c.line y with callTimer := (c.line y).callTimer - 1 }
        else c.line y := by
  obtain ⟨-, -, -, -, h1⟩ := Intercom.callTicked_spec .left c
  obtain ⟨-, -, -, -, h2⟩ := Intercom.callTicked_spec .right (c.callTicked .left)
  have k : (c.callTicked .left).isCalling .right = c.isCalling .right := by
    unfold Intercom.isCalling; rw [h1]; rfl
  rw [h2, k]
  simp only [h1]
  cases y <;> simp

/-- R128: the path and its timers under both call timers of a rollover; the tone too where none expires. -/
theorem Intercom.callsTicked_rest (c : Intercom) :
    ((c.callTicked .left).callTicked .right).path = c.path
      ∧ ((c.callTicked .left).callTicked .right).connectionTimer = c.connectionTimer
      ∧ ((c.callTicked .left).callTicked .right).talkTimer = c.talkTimer
      ∧ ((∀ y, c.isCalling y = true → 1 < (c.line y).callTimer) →
        ((c.callTicked .left).callTicked .right).tone = c.tone) := by
  obtain ⟨a1, a2, a3, a4, h1⟩ := Intercom.callTicked_spec .left c
  obtain ⟨b1, b2, b3, b4, -⟩ := Intercom.callTicked_spec .right (c.callTicked .left)
  refine ⟨b1.trans a1, b2.trans a2, b3.trans a3, fun h => (b4 ?_).trans (a4 (h .left))⟩
  have e : (c.callTicked .left).line .right = c.line .right := by rw [h1]; simp
  unfold Intercom.isCalling
  rw [e]
  exact h .right

/-! ### Pending events (R181) -/

/-- An event set in the pending set is pending, and so is every event that was. -/
theorem DashLink.isPending_raise (d : DashLink) (e f : Event) :
    (d.raise e).isPending f = (d.isPending f || (e == f)) := by
  unfold DashLink.raise DashLink.isPending
  simp only [BitVec.getLsbD_or]
  congr 1
  cases e <;> cases f <;> decide

end Sys2Proof.Machine
end

