-- ==== Sys2Proof/Tests/Slice0.lean ====
section
/-! SUPPORT. Small tests of the model on values the manual works out (its worked cases, tables and rules), each about one
command or event on a small state; and for every statement with hypotheses a witness that meets them. -/

namespace Sys2Proof.Tests

open Sys2Proof.Machine

/-! ### The states the tests start from -/

/-- The tariff 1 of the worked cases of chapter 2. -/
def tariffOne : Tariff :=
  { defined := 1, mode := 0, flagFall := 350, stepAmount := 20, stepDistance := 100, stepTime := 24, includedSteps := 5,
    share2 := 70, share3 := 55, share4 := 45, driverSelectable := 1, tipCap := 30 }

/-- A tariff 2 with the step size 1,600 of the worked switch at supply return, and s3 at 60. -/
def tariffTwo : Tariff :=
  { tariffOne with flagFall := 400, stepTime := 16, share3 := 60, driverSelectable := 0 }

/-- The DOUBLE tariff 3 of its worked case. -/
def tariffThree : Tariff :=
  { tariffOne with mode := 1, stepAmount := 40, stepDistance := 200, stepTime := 60, includedSteps := 0 }

/-- An image with the three tariffs, two extra kinds and the schedule worked after R75. -/
def image : Image :=
  { blankImage with
    pulsesPerKm := 6250, filterCount := 5
    tariffs := ((blankImage.tariffs.set 0 tariffOne).set 1 tariffTwo).set 2 tariffThree
    extras := (blankImage.extras.set 0 { amount := 500, maximum := 9 }).set 1 { amount := 100, maximum := 3 }
    windows := ((blankImage.windows.set 0 { weekdays := 31, day := 0, month := 0, start := 1320, stop := 360, tariff := 2 }).set
      1 { weekdays := 0, day := 25, month := 12, start := 0, stop := 0, tariff := 3 }).set
      2 { weekdays := 96, day := 0, month := 0, start := 0, stop := 0, tariff := 2 } }

/-- Tuesday 2031-12-30 at 12:00:10. -/
def noon : Stamp := ⟨2031, 12, 30, 12, 0, 10⟩

/-- An OPEN shift. -/
def shift : Shift := newShift 212 40117 ⟨2031, 12, 30, 6, 0, 0⟩

/-- A cab in service: clock set, image VALID at version 14, shift OPEN, every slot FREE, a command frame open. -/
def cab : State :=
  { State.reset with
    cal := { time := noon, weekday := .tuesday, clockSet := true, tariff := some 1, deciding := some .fallback }
    dist := { coldDistance with settings := some { pulsesPerKm := 6250, edge := .rising, filter := 5 } }
    store := { unwrittenStore with active := image, valid := true, version := 14 }
    sign := { coldSign with shown := .free }
    shift := some shift
    supply := { coldSupply with ignitionOn := true }
    dash := { coldDash false with frame := .receiving } }

/-- A trip for L, RUNNING on tariff 1 of the calendar. -/
def trip : Trip :=
  { state := .running, number := 17, stations := .left, share := true, selection := .calendar, start := noon,
    stop := none, segments := [{ tariff := 1, start := noon, metres := 0, seconds := 0, steps := 0 }],
    segmentsFull := false, saturated := false, distanceFault := false, powerPaused := false, progress := 0,
    remainder := 0, window := 0, freeSteps := 5, flagFall := 350, stepTotal := 0, extras := [], extrasTotal := 0,
    totalDue := 350, hiredMetres := 0, hiredSeconds := 0, grace := none, payment := none }

/-- A HELD hold of station L. -/
def hold : Hold := { reference := 40112907, amount := 2000, station := .left, state := .held, warned := false }

/-- The trip STOPPED. -/
def stoppedTrip : Trip := { trip with state := .stopped, stop := some noon, grace := some { count := 0, attempted := false } }

/-- The trip SETTLING, with one second left of its payment timer. -/
def settlingTrip : Trip :=
  { stoppedTrip with
    state := .settling
    grace := some { count := 0, attempted := true }
    payment := some { newPayment with attempt := .inProgress, timer := 1 } }

/-- The trip SETTLED by card with a tip of 100. -/
def cardTrip : Trip :=
  { stoppedTrip with
    state := .settled
    payment := some { newPayment with
      method := .card, attempt := .approved, cardRef := some 7700125, captured := 450, tip := 100 } }

/-- A trip with a hold in its payment sub-record. -/
def withHold (h : Hold) (t : Trip) : Trip := { t with payment := some { t.paymentOrNew with hold := some h } }

/-- The cab with a trip in slot 0, the sign showing `g`. -/
def carrying (t : Trip) (g : SignState) : State :=
  { cab with slots := ⟨some t, none, none, none⟩, sign := { cab.sign with shown := g } }

/-- The state a command leaves. -/
def after (c : Instr) (s : State) : State :=
  match exec c s with
  | .next t => t
  | _ => s

/-- The result and the response in the frame of a state. -/
def answered (s : State) : Option (ResultCode × List Byte) :=
  match s.dash.frame with
  | .answered _ r bytes _ => some (r, bytes)
  | _ => none

/-- The result in the frame of a state. -/
def result (s : State) : Option ResultCode := (answered s).map (·.1)

/-- A trip of R in slot 1 beside the trip of L in slot 0. -/
def shared (a b : Trip) : State :=
  { cab with slots := ⟨some a, some b, none, none⟩, sign := { cab.sign with shown := .hired } }

/-- The cab with the service switch OPEN, the latch set and staging loaded. -/
def verifier : State :=
  { cab with store := { cab.store with switchOpen := true, latch := true, stagingLoaded := true, staging := image } }

/-- The verifier's cab in its commit write. -/
def committing : State := { verifier with store := verifier.store.beginCommit verifier.tot }

/-- The cab asleep, its frame ended. -/
def asleep : State :=
  { cab with
    supply := { cab.supply with power := .standby, ignitionOn := false }
    sign := { cab.sign with shown := .blank }, dash := { cab.dash with frame := .idle } }

/-- The cab in HOLDOVER. -/
def unpowered : State :=
  { cab with
    supply := { cab.supply with power := .holdover }
    sign := { cab.sign with shown := .blank }, dash := { cab.dash with frame := .idle } }

/-- The cab with a call at R, the path as given. -/
def calling (p : DriverPath) : State :=
  { shared trip { trip with number := 18, stations := .right } with
    ic := { coldIntercom with
      path := p
      stations := ⟨idleLine, { idleLine with state := .calling, callTimer := 18 }⟩ } }

/-- The cab in conversation with L. -/
def talking : State :=
  { shared trip { trip with number := 18, stations := .right } with
    ic := { coldIntercom with
      path := .linked .left, connectionTimer := 1
      stations := ⟨{ idleLine with state := .connected }, idleLine⟩ } }

/-! ### Well-formed commands (R179, R186) -/

theorem test_listed_code_is_no_bad_command : (Instr.badCommand 0x10).wellFormed = false := by decide
theorem test_unlisted_code_is_a_bad_command : (Instr.badCommand 0x19).wellFormed = true := by decide
theorem test_empty_write_is_refused : (Instr.partitionWriteDiscarded []).wellFormed = false := by decide
theorem test_message_is_no_discarded_write : (Instr.partitionWriteDiscarded [0x31, 1]).wellFormed = false := by
  decide
theorem test_long_write_is_discarded : (Instr.partitionWriteDiscarded [0x31, 1, 0]).wellFormed = true := by decide

/-! ### Bytes of the links, written out from the tables of section 11.6 -/

theorem test_decode_startFare : decodeFrame [0x10, 1, 1, 0, 0] = some (.startFare 1 1 0 0) := by decide
theorem test_decode_releaseTrip : decodeFrame [0x18, 0, 52, 0] = some (.releaseTrip 0 52) := by decide
theorem test_decode_recordCash : decodeFrame [0x20, 1, 160, 0, 0, 0] = some (.recordCash 1 160) := by decide
theorem test_decode_setClock :
    decodeFrame [0x30, 0xEF, 0x07, 12, 30, 12, 0, 10] = some (.setClock 2031 12 30 12 0 10) := by decide
theorem test_decode_stageWrite : decodeFrame [0x41, 208, 0, 65, 0, 0, 0] = some (.stageWrite 208 65) := by decide
theorem test_decode_shiftOpen : decodeFrame [0x70, 0xB5, 0x9C, 0, 0] = some (.shiftOpen 40117) := by decide
theorem test_decode_intercom : decodeFrame [0x50, 2] = some (.answer 2) := by decide
theorem test_decode_sign : decodeFrame [0x62, 8, 0xFF] = some (.signSetup 8) := by decide
theorem test_decode_standby : decodeFrame [0x90] = some .standby := by decide
theorem test_decode_watch : decodeFrame [0x83, 1] = none ∧ decodeFrame [0x83, 1, 1] = some (.watch 1 1) := by decide
theorem test_decode_unlisted : decodeFrame [0x91, 7] = some (.badCommand 0x91) := by decide
theorem test_decode_holdPlaced :
    decodeWrite [0x11, 2, 23, 0, 0x0B, 0x14, 0x64, 0x02, 0xD0, 0x07, 0, 0] = some (.holdPlaced .right 23 40113163 2000) := by
  decide
theorem test_decode_payResult :
    decodeWrite [0x22, 2, 23, 0, 2, 0, 0, 0, 0, 0, 0, 0, 0, 0, 0, 0, 0] = some (.payResult .right 23 2 0 0 0) := by
  decide
theorem test_decode_shortWrite :
    decodeWrite [0x21, 1, 23] = some (.partitionWriteDiscarded [0x21, 1, 23]) := by decide
theorem test_no_table_word : decodeTableWord 8 0x10 = none := by decide

/-! ### The fare table (chapter 1, its worked sequence) -/

theorem test_startFare_response :
    answered (after (.startFare 1 1 0 0) { cab with shift := some { shift with nextTrip := 17 } })
      = some (.ok, [0, 17, 0, 0x5E, 0x01, 0, 0]) := by decide
theorem test_startFare_private : result (after (.startFare 2 0 0 0) (carrying trip .hired)) = some .privacy := by
  decide
theorem test_pauseFare_settles :
    (after (.pauseFare 0) (shared { trip with progress := 473, remainder := 20, window := 6 }
        { trip with number := 18, stations := .right, progress := 375, remainder := 20, window := 6 })).slots.a0.map
      (fun t => (t.state, t.window, t.progress, t.remainder)) = some (.paused, 0, 574, 0) := by decide
theorem test_resumeFare_clears_power_pause :
    (after (.resumeFare 0) (carrying { trip with state := .paused, powerPaused := true } .hired)).slots.a0.map
      (fun t => (t.state, t.powerPaused)) = some (.running, false) := by decide
theorem test_stopFare_announces :
    (after (.stopFare 0) (carrying trip .hired)).link.notices.left = some (.due 17 350) := by decide
theorem test_reopenFare_at_19 :
    result (after (.reopenFare 0) (carrying { stoppedTrip with grace := some ⟨19, false⟩ } .hired)) = some .ok := by
  decide
theorem test_reopenFare_at_20 :
    result (after (.reopenFare 0) (carrying { stoppedTrip with grace := some ⟨20, false⟩ } .hired)) = some .tooLate := by
  decide
theorem test_addExtra_raises_due :
    (after (.addExtra 0 2 3) (carrying trip .hired)).slots.a0.map (·.totalDue) = some 650 := by decide
theorem test_addExtra_limit : result (after (.addExtra 0 2 4) (carrying trip .hired)) = some .limit := by decide
theorem test_cancelExtra_lowers_due :
    (after (.cancelExtra 0 1) (carrying
        { trip with extras := [{ kind := 1, count := 1 }], extrasTotal := 500, totalDue := 850 } .hired)).slots.a0.map
      (fun t => (t.totalDue, t.extras)) = some (350, []) := by decide
theorem test_readTrip_length :
    (answered (after (.readTrip 0) (carrying trip .hired))).map (fun p => p.2.length) = some 181 := by decide +kernel
theorem test_releaseTrip_mismatch :
    result (after (.releaseTrip 0 18) (carrying cardTrip .free)) = some .mismatch := by decide
theorem test_releaseTrip_counts :
    (after (.releaseTrip 0 17) (carrying cardTrip .free)).tot.moneyCharged = 350 := by decide

/-! ### The fare engine (chapter 2, its worked cases) -/

/-- The record with its money fields at 0 and no free steps. -/
def plain (q r w : Nat) : Trip := { trip with freeSteps := 0, progress := q, remainder := r, window := w }

theorem test_tenth_second :
    (creditSecond tariffOne 1 { trip with progress := 2160, window := 10 }).progress = 0
      ∧ (creditSecond tariffOne 1 { trip with progress := 2160, window := 10 }).freeSteps = 4 := by decide
theorem test_thirteenth_second :
    (creditSecond tariffOne 2 (plain 238 0 7)).progress = 355 ∧ (creditSecond tariffOne 2 (plain 238 0 7)).remainder = 60 := by
  decide
theorem test_fourteenth_second :
    (creditSecond tariffOne 2 (plain 355 60 7)).progress = 473 ∧ (creditSecond tariffOne 2 (plain 355 60 7)).remainder = 20 := by
  decide
theorem test_double_tariff :
    (creditSecond tariffThree 1 (plain 11700 0 5)).progress = 200 ∧ (creditSecond tariffThree 1 (plain 11700 0 5)).stepTotal = 40 := by
  decide
theorem test_cap_cuts_a_step :
    (takeStep 20 { trip with freeSteps := 0, stepTotal := 9999145, extrasTotal := 500, totalDue := 9999995 }).stepTotal
      = 9999149 := by decide
theorem test_segment_rescales :
    (startSegment image 2 noon { trip with progress := 2100 }).progress = 1400 := by decide
theorem test_fifth_segment_is_refused :
    (startSegment image 1 noon { trip with segments := List.replicate 4 (newSegment 2 noon), progress := 900 }).progress = 900
      ∧ (startSegment image 1 noon { trip with segments := List.replicate 4 (newSegment 2 noon) }).segmentsFull = true := by
  decide

/-! ### Settlement (chapter 6, its worked sequences) -/

theorem test_recordCash_credits :
    (after (.recordCash 0 160) (carrying { stoppedTrip with stepTotal := 1490, totalDue := 1840 } .hired)).shift.map
      (fun sh => (sh.flagFallTotal, sh.stepTotal, sh.cashFares, sh.tips)) = some (350, 1490, 1840, 160) := by decide
theorem test_recordCash_sends_release :
    (after (.recordCash 0 160) (carrying (withHold hold stoppedTrip) .hired)).link.notices.left
      = some (.releaseHold 17 40112907 2000) := by decide
theorem test_declareUnpaid_method :
    ((after (.declareUnpaid 0) (carrying stoppedTrip .hired)).slots.a0.bind (·.payment)).map (·.method) = some .unpaid := by
  decide
theorem test_holdPlaced_below_threshold :
    ((after (.holdPlaced .left 17 40112907 2000) (carrying trip .hired)).slots.a0.bind (·.hold)).map (·.warned)
      = some false := by decide
theorem test_holdPlaced_bad_amount :
    (after (.holdPlaced .left 17 40112907 99) (carrying trip .hired)).link.notices.left
      = some (.ack 0x11 (some .badAmount) 17 350) := by decide
theorem test_holdReleased_replaces_notice :
    (after (.holdReleased .left 40112907)
        { carrying (withHold { hold with state := .releasePending } cardTrip) .free with
          link := { coldLink with notices := ⟨some (.releaseHold 17 40112907 2000), none⟩ } }).link.notices.left
      = some (.ack 0x12 none 17 350) := by decide
theorem test_payBegin_attempts :
    (after (.payBegin .left 17) (carrying stoppedTrip .hired)).slots.a0.map (fun t => (t.state, t.grace))
      = some (.settling, some { count := 0, attempted := true }) := by decide
theorem test_payBegin_blocked :
    (after (.payBegin .left 17)
        (carrying { stoppedTrip with payment := some { newPayment with declines := 3 } } .hired)).link.notices.left
      = some (.ack 0x21 (some .cardBlocked) 17 350) := by decide
theorem test_payResult_at_the_cap :
    (after (.payResult .left 17 1 455 105 7) (carrying settlingTrip .hired)).slots.a0.map (·.state) = some .settled := by
  decide
theorem test_payResult_over_the_cap :
    (after (.payResult .left 17 1 456 106 7) (carrying settlingTrip .hired)).link.notices.left
      = some (.ack 0x22 (some .tipOverCap) 17 350) := by decide
theorem test_payVoid_mismatch :
    (after (.payVoid .left 17 7700126) (carrying cardTrip .free)).link.notices.left
      = some (.ack 0x23 (some .mismatch) 17 350) := by decide
theorem test_payVoid_returns_money :
    (after (.payVoid .left 17 7700125)
        { carrying cardTrip .free with
          shift := some { shift with cardFares := 350, flagFallTotal := 350, tips := 100 } }).shift.map
      (fun sh => (sh.cardFares, sh.flagFallTotal, sh.tips, sh.voids)) = some (0, 0, 0, 1) := by decide
theorem test_fareQuery_unbound :
    (after (.fareQuery .right) (carrying trip .hired)).link.notices.right = some (.fare 0 none 0) := by decide
theorem test_paymentTimerExpiry :
    (after (.paymentTimerExpiry 0) (carrying settlingTrip .hired)).slots.a0.map (·.state) = some .stopped := by
  decide

/-! ### The calendar (chapter 4, its worked tables) -/

theorem test_setClock_leap_day :
    result (after (.setClock 2031 2 29 0 0 0) verifier) = some .badArg
      ∧ result (after (.setClock 2032 2 29 0 0 0) verifier) = some .ok := by decide
theorem test_adjustClock_forward :
    (fun s => (s.cal.time, s.shift.map (·.allowance)))
        (after (.adjustClock 127) { cab with cal := { cab.cal with time := ⟨2031, 12, 30, 7, 14, 20⟩ } })
      = (⟨2031, 12, 30, 7, 16, 20⟩, some 60) := by decide
theorem test_adjustClock_back :
    answered (after (.adjustClock 0xA6)
        { cab with
          cal := { cab.cal with time := ⟨2031, 12, 30, 9, 30, 5⟩ }
          shift := some { shift with allowance := 60, adjustmentSum := 120 } }) = some (.ok, [0xC4, 0]) := by decide
theorem test_readClock_bytes :
    answered (after .readClock cab) = some (.ok, [0xEF, 0x07, 12, 30, 12, 0, 10, 2, 1, 1, 13]) := by decide
theorem test_weekdays :
    weekdayOf ⟨2000, 1, 1, 0, 0, 0⟩ = .saturday ∧ weekdayOf ⟨2031, 12, 25, 0, 0, 0⟩ = .thursday
      ∧ weekdayOf ⟨2031, 12, 30, 0, 0, 0⟩ = .tuesday := by decide
theorem test_schedule_christmas :
    decideTariff image ⟨2031, 12, 25, 3, 0, 0⟩ = (2, .window 1) ∧ decideTariff image ⟨2031, 12, 25, 12, 0, 0⟩ = (3, .window 2) := by
  decide
theorem test_schedule_week :
    decideTariff image ⟨2031, 12, 26, 23, 30, 0⟩ = (2, .window 1) ∧ decideTariff image ⟨2031, 12, 27, 2, 0, 0⟩ = (2, .window 3)
      ∧ decideTariff image ⟨2031, 12, 29, 2, 0, 0⟩ = (2, .window 1) ∧ decideTariff image noon = (1, .fallback) := by
  decide

/-! ### The tariff store (chapter 5, its worked sequences) -/

theorem test_image_passes : image.firstBad = none := by decide +kernel
theorem test_loadStage_version : answered (after .loadStage cab) = some (.ok, [14, 0]) := by decide
theorem test_stageWrite_selects :
    ((after (.stageWrite 208 80) verifier).store.staging.tariff 2).share3 = 80 := by decide
theorem test_readItem_during_commit : answered (after (.readItem 0 208) committing) = some (.ok, [60, 0, 0, 0]) := by
  decide
theorem test_enableCommit_closed : result (after .enableCommit cab) = some .serviceClosed := by decide
theorem test_commit_bad_image :
    answered (after .commit { verifier with store := { verifier.store with staging := image.withItem 80 (.tariff 1 .share3) } })
      = some (.badImage, [208, 0]) := by decide +kernel
theorem test_commit_version : answered (after .commit verifier) = some (.ok, [15, 0]) := by decide +kernel
theorem test_commitWriteSuccess :
    (fun s => (s.store.version, s.store.valid, s.store.latch, s.tot.tariffCommits)) (after .commitWriteSuccess committing)
      = (15, true, false, 1) := by decide +kernel
theorem test_commitWriteFailure :
    (fun s => (s.store.version, s.store.valid, s.cal.tariff)) (after .commitWriteFailure committing) = (14, false, none) := by
  decide +kernel
theorem test_mirrorWriteSuccess_closes :
    (fun s => (s.shift, s.prev.bind (·.closeStamp)))
        (after .mirrorWriteSuccess
          { cab with shift := some { shift with state := .closing }, store := cab.store.beginMirror cab.tot })
      = (none, some noon) := by decide
theorem test_mirrorWriteFailure_begins_again :
    (after .mirrorWriteFailure { cab with store := cab.store.beginMirror cab.tot }).store.state = .mirrorWrite := by
  decide
theorem test_svcSample_third_high :
    (fun s => (s.store.switchOpen, s.tot.serviceOpenings))
        (after (.svcSample true) { cab with store := { cab.store with switchRun := 2 }, tot := { cab.tot with serviceOpenings := 7 } })
      = (true, 8) := by decide

/-! ### The intercom (chapter 7, its worked sequence) -/

theorem test_answer_links : (after (.answer 2) (calling .free)).ic.path = .linked .right := by decide
theorem test_answer_busy : result (after (.answer 2) (calling (.talk .both))) = some .busy := by decide
theorem test_open_private :
    result (after (.openStation 2)
      { talking with ic := talking.ic.onLine .right (fun l => { l with privacy := true }) }) = some .privacy := by
  decide
theorem test_close_frees : (after (.closeStation 1) talking).ic.path = .free := by decide
theorem test_talkPress_sets_timer : (after (.talkPress 3) (carrying trip .hired)).ic.talkTimer = 30 := by decide
theorem test_talkPress_empty_set : result (after (.talkPress 0) (carrying trip .hired)) = some .badArg := by decide
theorem test_talkRelease_sounds_deferred :
    ((after .talkRelease
        { calling (.talk .both) with
          ic := (calling (.talk .both)).ic.onLine .right (fun l => { l with deferred := true }) }).ic.tone).map (·.station)
      = some .right := by decide
theorem test_buttonSample_calls :
    ((after (.buttonSample .left false)
        { carrying trip .hired with ic := coldIntercom.onLine .left (fun l => { l with tracker := .down 12 }) }).ic.line
          .left).callTimer = 30 := by decide
theorem test_buttonSample_privacy :
    ((after (.buttonSample .left true)
        { carrying trip .hired with ic := coldIntercom.onLine .left (fun l => { l with tracker := .down 39 }) }).ic.line
          .left).privacy = true := by decide
theorem test_callTimerExpiry_missed :
    (after (.callTimerExpiry .right)
        { calling .free with ic := (calling .free).ic.onLine .right (fun l => { l with callTimer := 1 }) }).shift.map
      (·.missedCalls) = some 1 := by decide
theorem test_connectionExpiry_ends : (after .connectionExpiry talking).ic.path = .free := by decide
theorem test_talkExpiry_ends :
    (after .talkExpiry { cab with ic := { coldIntercom with path := .talk .left, talkTimer := 1 } }).ic.path = .free := by
  decide
theorem test_callChimeEnd_sounds_queued :
    (after .callChimeEnd
        { calling .free with
          ic := { (calling .free).ic with tone := some { station := .left, left := 1, queued := some .right } } }).ic.tone
      = some { station := .right, left := 20, queued := none } := by decide
theorem test_fareChimeEnd_ends :
    ((after (.fareChimeEnd .left)
        { cab with ic := coldIntercom.onLine .left (fun l => { l with fareChime := some ⟨.paid, 1⟩ }) }).ic.line
          .left).fareChime = none := by decide

/-! ### Sign and alert (chapter 8) -/

theorem test_signDuty_off : answered (after (.signDuty 0) cab) = some (.ok, [2]) := by decide
theorem test_shareAccept_shares : answered (after (.shareAccept 1) (carrying trip .hired)) = some (.ok, [4]) := by
  decide
theorem test_signSetup_three : result (after (.signSetup 3) cab) = some .badArg := by decide
theorem test_clearAlert_pressed :
    result (after .clearAlert { cab with sign := { cab.sign with shown := .alert, latch := true, tracker := .held } })
      = some .badState := by decide
theorem test_alswSample_sixtieth :
    (after (.alswSample true ⟨true, true, true, true⟩) { cab with sign := { cab.sign with tracker := .down 59 } }).sign.shown
      = .alert := by decide
theorem test_alswSample_wakes :
    let t := after (.alswSample true ⟨false, false, false, false⟩)
      { asleep with sign := { asleep.sign with tracker := .down 59 } }
    t.supply.power = .active ∧ t.sign.shown = .alert ∧ t.sign.flashLit = true := by decide
theorem test_lampPeriodEnd_flashes :
    (after (.lampPeriodEnd ⟨true, true, true, true⟩)
      { cab with sign := { cab.sign with latch := true, shown := .alert, flashLit := true } }).litLamps
        = ⟨false, false, false, false⟩ := by decide
theorem test_lampPeriodEnd_faults :
    (fun s => (s.sign.lamps.free.faulted, s.sign.lamps.off.faulted, s.shift.map (·.lampFaults)))
        (after (.lampPeriodEnd ⟨false, false, false, false⟩)
          { cab with sign := { cab.sign with lamps := { cab.sign.lamps with free := ⟨false, 3, 0, true⟩ } } })
      = (true, false, some 1) := by decide

/-! ### The shift unit (chapter 9, its worked sequences) -/

theorem test_shiftOpen_wraps :
    ((after (.shiftOpen 40117) { cab with shift := none, sign := { cab.sign with shown := .offDuty },
                                          tot := { zeroTotals with shiftCounter := 65535 } }).shift).map (·.number)
      = some 1 := by decide
theorem test_shiftBreak_off_duty : (after .shiftBreak cab).sign.shown = .offDuty := by decide
theorem test_shiftResume :
    answered (after .shiftResume
      { cab with shift := some { shift with state := .onBreak }, sign := { cab.sign with shown := .offDuty } })
      = some (.ok, [1]) := by decide
theorem test_shiftClose_uncollected_first :
    result (after .shiftClose { carrying cardTrip .free with prev := some { shift with number := 211 } })
      = some .uncollected := by decide
theorem test_shiftClose_answers : answered (after .shiftClose cab) = some (.ok, [212, 0]) := by decide
theorem test_readShift_absent : answered (after (.readShift 1) cab) = some (.badState, zeros 122) := by decide
theorem test_releaseShift_mismatch :
    result (after (.releaseShift 210) { cab with prev := some { shift with number := 211 } }) = some .mismatch := by
  decide
theorem test_readTotalizers_length : (answered (after .readTotalizers cab)).map (fun p => p.2.length) = some 40 := by
  decide

/-! ### Distance (chapter 3, its worked tables) -/

theorem test_acceptedEdge_raises_a_metre :
    (fun s => (s.dist.accumulator, s.dist.window))
        (after (.acceptedEdge .rising) { cab with dist := { cab.dist with accumulator := 5250 } }) = (0, 1) := by
  decide
theorem test_acceptedEdge_at_the_cap :
    (fun s => (s.dist.accumulator, s.dist.window, s.dist.overspeed))
        (after (.acceptedEdge .rising) { cab with dist := { cab.dist with accumulator := 6000, window := 90 } })
      = (750, 90, true) := by decide
theorem test_dsensSample_fifth_low :
    (fun s => (s.dist.faulted, s.slots.a0.map (·.distanceFault)))
        (after (.dsensSample false)
          { carrying trip .hired with dist := { cab.dist with lowRun := 4 } }) = (true, some true) := by decide
theorem test_dsensSample_recovers :
    (after (.dsensSample true) { cab with dist := { cab.dist with faulted := true, highRun := 4 } }).dist.faulted = false := by
  decide

/-! ### Supply (chapter 10, its worked sequence) -/

theorem test_standby_is_requested : (after .standby cab).supply.standbyRequest = true := by decide
theorem test_ignSample_fifth_low :
    (fun s => (s.supply.ignitionOn, s.supply.offTimer))
        (after (.ignSample false) { cab with supply := { cab.supply with ignitionRun := 4, offTimer := 7 } }) = (false, 0) := by
  decide
theorem test_ignSample_wakes :
    (after (.ignSample true) { asleep with supply := { asleep.supply with ignitionRun := 4 } }).sign.shown = .free := by
  decide
theorem test_ignitionOffTimerExpiry :
    (after .ignitionOffTimerExpiry { cab with supply := { cab.supply with ignitionOn := false, offTimer := 299 } }).supply.power
      = .standby := by decide
theorem test_supplyLoss_pauses :
    (after .supplyLoss (carrying trip .hired)).slots.a0.map (fun t => (t.state, t.powerPaused)) = some (.paused, true) := by
  decide
theorem test_supplyReturn_switches :
    (fun s => (s.cal.tariff, s.slots.a0.map (fun t => (t.segments.length, t.progress))))
        (after .supplyReturn
          { unpowered with
            slots := ⟨some { trip with state := .paused, powerPaused := true, progress := 2100 }, none, none, none⟩
            cal := { cab.cal with time := ⟨2031, 12, 30, 22, 3, 12⟩ } }) = (some 2, some (2, 1400)) := by decide
theorem test_coldStart_loads_the_mirror :
    (fun s => (s.tot.shiftCounter, s.tot.hirings, s.tot.coldStarts))
        (after .coldStart
          { unpowered with
            supply := { unpowered.supply with retention := false }
            tot := { zeroTotals with shiftCounter := 214, hirings := 20121, coldStarts := 2 }
            store := { cab.store with
              mirror := ⟨⟨{ zeroTotals with shiftCounter := 213, hirings := 20118, coldStarts := 2 }, 7⟩, ⟨zeroTotals, 6⟩⟩ } })
      = (213, 20118, 3) := by decide
theorem test_batteryDomainLoss : (after .batteryDomainLoss unpowered).supply.retention = false := by decide

/-! ### The links (chapter 11) and time -/

theorem test_readStatus_length : (answered (after .readStatus cab)).map (fun p => p.2.length) = some 30 := by decide
theorem test_readEvents_copy :
    answered (after .readEvents { cab with dash := { cab.dash with events := 0x4008, mask := 0x4000 } })
      = some (.ok, [0, 0x40]) := by decide
theorem test_setEventMask : (after (.setEventMask 8) cab).dash.mask = 8 := by decide
theorem test_watch_block_five : result (after (.watch 5 0) cab) = some .badArg := by decide
theorem test_identify_length : (answered (after .identify cab)).map (fun p => p.2.length) = some 10 := by decide
theorem test_badCommand : answered (after (.badCommand 0x19) cab) = some (.badCommand, []) := by decide
theorem test_badCommand_ends_watch :
    (fun d => (d.watch, d.counted))
        (after (.badCommand 0xA5) { cab with dash := { cab.dash with frame := .watching [1], watch := some .status } }).dash
      = (none, 1) := by decide
theorem test_dcsFalling_discards : (after .dcsFalling asleep).dash.frame = .discarded := by decide
theorem test_dcsRising_clears_at_five :
    (after (.dcsRising 5)
        { cab with dash := { cab.dash with events := 0x4008, frame := .answered 0 .ok [0, 0x40] (.clearEvents 0x4000) } }).dash.events
      = 8 := by decide
theorem test_dcsRising_keeps_at_four :
    (after (.dcsRising 4)
        { cab with dash := { cab.dash with events := 0x4008, frame := .answered 0 .ok [0, 0x40] (.clearEvents 0x4000) } }).dash.events
      = 0x4008 := by decide
theorem test_watchModeExit :
    (after .watchModeExit { cab with dash := { cab.dash with frame := .watching [1], watch := some .status } }).dash.watch
      = none := by decide
theorem test_watchModeExit_later_byte :
    (fun d => (d.watch, d.counted))
        (after .watchModeExit
          { cab with dash := { cab.dash with frame := .watching [1], watch := some .status, counted := 1 } }).dash
      = (some .status, 2) := by decide
theorem test_second_command_is_only_counted :
    (fun d => (d.frame, d.counted)) (after (.signSetup 8) (after .shiftResume cab)).dash
      = (.answered 0 .badState [0] .nothing, 3) := by decide
theorem test_identify_vendor_bytes :
    (fun d => (d.dmiso, { d with counted := 2 }.dmiso, { d with counted := 3 }.dmiso, { d with counted := 4 }.dmiso))
        (after .identify cab).dash = (0xFF, 0, 0x17, 0x5E) := by decide
theorem test_linkReset_clears_staging : (after .linkReset verifier).store.stagingLoaded = false := by decide
theorem test_drstRising : (after .drstRising { cab with dash := { cab.dash with drstLow := true } }).dash.drstLow = false := by
  decide
theorem test_selectorWrite : (after (.selectorWrite .right) cab).link.selector = .right := by decide
theorem test_partitionWriteDiscarded :
    (after (.partitionWriteDiscarded [0x21, 2, 23]) cab).link.notices.right = some (.ack 0x21 (some .badMessage) 0 0) := by
  decide
theorem test_noticeRead_fifteen :
    (after (.noticeRead (.whole 15)) { cab with link := { coldLink with notices := ⟨some (.due 17 350), none⟩ } }).link.notices.left
      = some (.due 17 350) := by decide
theorem test_noticeRead_sixteen :
    (after (.noticeRead (.whole 16)) { cab with link := { coldLink with notices := ⟨some (.due 17 350), none⟩ } }).link.notices.left
      = none := by decide
theorem test_noticeRead_eighteen :
    (after (.noticeRead (.whole 18)) { cab with link := { coldLink with notices := ⟨some (.due 17 350), none⟩ } }).link.sent
      = [3, 1, 17, 0, 0x5E, 1, 0, 0, 0, 0, 0, 0, 0, 0, 0, 0, 0xFF, 0xFF] := by decide
theorem test_psda_bytes :
    (fun s => (s.psdaByte 0, s.psdaByte 15, s.psdaByte 16)) (after (.noticeRead .start) cab) = (0, 0, 0xFF) := by decide
theorem test_partition_acks :
    cab.writeAcks 0x2C 2 = [true, true, true] ∧ cab.acknowledges 0x2D = false ∧ asleep.acknowledges 0x2C = false
      ∧ unpowered.acknowledges 0x2C = false := by decide
theorem test_secondRollover_range_end :
    (fun s => (s.cal.time, s.cal.clockSet))
        (after .secondRollover { cab with cal := { cab.cal with time := lastStamp, weekday := weekdayOf lastStamp } })
      = (firstStamp, false) := by decide
theorem test_secondRollover_credits_two :
    ((after .secondRollover (shared { trip with window := 10 }
        { trip with number := 18, stations := .right, window := 4 })).slots.list.map
      (Option.map (fun t => (t.progress, t.window)))) = [some (168, 0), some (70, 0), none, none] := by decide
theorem test_reset_idles : step State.reset = .next State.reset.chimePeriod := by rfl
theorem test_reset_is_a_cold_start :
    after .coldStart { State.reset with
        store := unwrittenStore, supply := { coldSupply with power := .holdover, retention := false } } = State.reset := by
  decide +kernel

/-! ### Witnesses of the statements' hypotheses

Each theorem names a statement and shows states and operands that meet its hypotheses together, clause by clause. -/

theorem cab_serving : Serving cab := ⟨⟨rfl, rfl⟩, rfl⟩
theorem verifier_serving : Serving verifier := ⟨⟨rfl, rfl⟩, rfl⟩
theorem committing_serving : Serving committing := ⟨⟨rfl, rfl⟩, rfl⟩
theorem running_serving : Serving (carrying trip .hired) := ⟨⟨rfl, rfl⟩, rfl⟩
theorem stopped_serving : Serving (carrying stoppedTrip .hired) := ⟨⟨rfl, rfl⟩, rfl⟩
theorem settled_serving : Serving (carrying cardTrip .free) := ⟨⟨rfl, rfl⟩, rfl⟩

theorem cab_slots (i : Fin 4) : cab.slot i = none := by revert i; decide

theorem carrying_slot {t u : Trip} {g : SignState} {i : Fin 4} (h : (carrying t g).slot i = some u) : i = 0 ∧ u = t := by
  fin_cases i <;> simp [State.slot, carrying, Four.get] at h
  exact ⟨rfl, h.symm⟩

theorem shared_slot {a b t : Trip} {i : Fin 4} (h : (shared a b).slot i = some t) : t = a ∨ t = b := by
  fin_cases i <;> simp [State.slot, shared, Four.get] at h
  · exact .inl h.symm
  · exact .inr h.symm

/-- A trip for R beside that of L. -/
def otherTrip : Trip := { trip with number := 18, stations := .right }

/-- A cab in which two fares share, about to take a rollover. -/
def busy : State :=
  { shared trip otherTrip with
    dist := { cab.dist with window := 90 }, dash := coldDash false, pending := [.secondRollover] }

theorem busy_slot {t : Trip} {i : Fin 4} (h : busy.slot i = some t) : t = trip ∨ t = otherTrip := shared_slot h

theorem busy_steps : ∃ t, step busy = .next t := ⟨_, rfl⟩

theorem busy_fits : FaresFitPower busy := fun _ _ _ => ⟨nofun, nofun⟩

theorem witness_FrontCommandIsTaken : cab.pending = [] := rfl

theorem witness_FramesDecodeToTheirCommand :
    (Instr.badCommand 0x91).wellFormed = true ∧ encodeFrame (.badCommand 0x91) = some [0x91]
      ∧ encodeFrame (.stageWrite 208 65) = some [0x41, 208, 0, 65, 0, 0, 0]
      ∧ [0x41, 208] <+: [0x41, 208, 0, 65, 0, 0, (0 : Byte)] := by decide

theorem witness_WritesDecodeToTheirMessage :
    decodeWrite [0x31, 1] = some (.fareQuery .left) ∧ decodeWrite [0x31, 3] = some (.partitionWriteDiscarded [0x31, 3]) := by
  decide

theorem witness_FareTableStaysSound : DueIsSum busy ∧ TripNumbersDiffer busy ∧ BoundOnce busy ∧ ∃ t, step busy = .next t := by
  refine ⟨?_, ?_, ?_, busy_steps⟩
  · intro i t h; rcases busy_slot h with rfl | rfl <;> rfl
  · intro i j t u hi hj hne
    fin_cases i <;> fin_cases j <;> simp [State.slot, busy, shared, Four.get] at hi hj hne
      <;> subst hi <;> subst hj <;> decide
  · intro x i j; revert i j; cases x <;> decide

theorem witness_FaresKeepTheirConditions :
    WindowsAgree busy ∧ FaresUnderShift busy ∧ FaresFitPower busy ∧ (∃ t, step busy = .next t)
      ∧ FreeDuringCommit committing ∧ committing.store.state = .commitWrite ∧ ∃ t, step committing = .next t := by
  refine ⟨⟨by decide, ?_⟩, ?_, busy_fits, busy_steps, fun _ i => cab_slots i, rfl, ⟨_, rfl⟩⟩
  · intro i t h; rcases busy_slot h with rfl | rfl <;> decide
  · intro i t h; exact ⟨shift, rfl, by decide, fun _ => rfl⟩

theorem witness_CalendarStaysSound : CalendarIsSound busy ∧ ∃ t, step busy = .next t := ⟨⟨by decide, by decide⟩, busy_steps⟩

theorem witness_ConnectedStaysLinked : ConnectedIsLinked talking ∧ ∃ t, step talking = .next t := by
  refine ⟨?_, ⟨_, rfl⟩⟩
  intro x; cases x <;> decide

/-- The cab with no shift open. -/
def unshifted : State := { cab with shift := none, sign := { cab.sign with shown := .offDuty } }

theorem witness_SignStaysDerived :
    SignFollows busy ∧ (∃ t, step busy = .next t)
      ∧ (∃ awake onDuty hired shareable : Prop,
        (awake ↔ cab.supply.power = .active ∧ cab.sign.latch = false)
        ∧ (onDuty ↔ (∃ sh, cab.shift = some sh ∧ sh.state = .opened)
          ∧ (cab.sign.duty = true ∨ ∃ i t, cab.slot i = some t ∧ t.state.isActive = true))
        ∧ (hired ↔ ∃ i t, cab.slot i = some t ∧ t.state.isActive = true)
        ∧ (shareable ↔ cab.sign.shareAccept = true ∧ cab.sign.duty = true
          ∧ (∀ i t, cab.slot i = some t → t.state.isActive = true → t.share = true) ∧ ∃ i, cab.slot i = none))
      ∧ (SignFollows cab ∧ cab.sign.shown = .free)
      ∧ (SignFollows (carrying trip .hired) ∧ (carrying trip .hired).sign.shown = .hired)
      ∧ SignFollows { carrying trip .share with sign := { (carrying trip .share).sign with shareAccept := true } }
      ∧ (SignFollows unshifted ∧ unshifted.sign.shown = .offDuty)
      ∧ SignFollows { cab with sign := { cab.sign with latch := true, shown := .alert } }
      ∧ (SignFollows asleep ∧ asleep.sign.shown = .blank) :=
  ⟨rfl, busy_steps, ⟨_, _, _, _, Iff.rfl, Iff.rfl, Iff.rfl, Iff.rfl⟩, ⟨rfl, rfl⟩, ⟨rfl, rfl⟩, rfl, ⟨rfl, rfl⟩, rfl,
    ⟨rfl, rfl⟩⟩

theorem witness_ShiftMoneyStaysBalanced : DueIsSum busy ∧ MoneyBalances busy ∧ ∃ t, step busy = .next t := by
  refine ⟨witness_FareTableStaysSound.1, ⟨?_, ?_⟩, busy_steps⟩
  · intro sh h; cases h; rfl
  · intro sh h; cases h

theorem witness_TotalizersNeverDecrease :
    TotalsInRange busy ∧ (∃ t, step busy = .next t) ∧ (Instr.secondRollover ≠ .coldStart)
      ∧ ∃ t, exec .secondRollover busy = .next t := by
  refine ⟨⟨by unfold Totalizers.inRange; decide, by unfold Totalizers.inRange; decide,
    by unfold Totalizers.inRange; decide, ?_⟩, busy_steps, nofun, ⟨_, rfl⟩⟩
  intro w h; cases h

theorem witness_NothingIsUnderWayAsleep :
    FaresFitPower unpowered ∧ NoticesOnlyActive unpowered ∧ FramesOnlyActive unpowered ∧ StoreIdleUnpowered unpowered
      ∧ unpowered.supply.power = .holdover ∧ CountStartsAtZero unpowered ∧ (∃ t, step unpowered = .next t)
      ∧ FramesOnlyActive cab ∧ CountStartsAtZero cab ∧ cab.dash.frame = .receiving :=
  ⟨fun i _ h => absurd ((cab_slots i).symm.trans h) nofun, fun _ => rfl, fun _ => rfl, fun _ => rfl, rfl, fun _ => rfl,
    ⟨_, rfl⟩, fun h => absurd h (by decide), fun _ => rfl, rfl⟩

/-- The cab in a watch frame of which no byte has come. -/
def watched : State := { cab with dash := { cab.dash with frame := .watching [1], watch := some .status } }

theorem witness_RefusedCommandChangesNothing :
    (encodeFrame (.signSetup 3)).isSome = true ∧ Serving cab
      ∧ exec (.signSetup 3) cab = .next (after (.signSetup 3) cab)
      ∧ (after (.signSetup 3) cab).dash.frame = .answered 1 .badArg [0] .nothing
      ∧ (Instr.signSetup 3).wellFormed = true ∧ encodeFrame (.signSetup 3) = some [0x62, 3]
      ∧ asleep.supply.power ≠ .active ∧ asleep.dash.frame = .idle ∧ busy.dash.frame ≠ .receiving
      ∧ (after .readEvents cab).dash.frame ≠ .receiving ∧ (after .readEvents cab).dash.frame ≠ .idle
      ∧ ([0x62, 3] : List Byte) ≠ [0xA5] ∧ (Instr.badCommand 0xA5).wellFormed = true
      ∧ encodeFrame (.badCommand 0xA5) = some [0xA5] ∧ watched.dash.frame ≠ .receiving ∧ watched.dash.counted = 0
      ∧ watched.dash.frame = .watching [1] :=
  ⟨rfl, cab_serving, rfl, rfl, rfl, rfl, by decide, rfl, by decide, by decide, by decide, by decide, rfl, rfl, by decide,
    rfl, rfl⟩

theorem witness_ReadsAnswerAndChangeNothing :
    Serving (carrying trip .hired) ∧ slotArg 0 = some 0 ∧ (carrying trip .hired).slot 0 = some trip
      ∧ (carrying trip .hired).shift = some shift ∧ Serving { cab with prev := some shift }
      ∧ itemOf (1 : Half).toNat = some (.general .defaultTariff) ∧ itemOf (1125 : Half).toNat = some (.window 11 .tariff)
      ∧ Serving verifier ∧ verifier.store.stagingLoaded = true
      ∧ verifier.store.state ≠ .commitWrite ∧ verifier.store.valid = true
      ∧ Serving committing ∧ committing.store.state = .commitWrite ∧ committing.store.readCopy = some ⟨image, true⟩ :=
  ⟨running_serving, rfl, rfl, rfl, ⟨⟨rfl, rfl⟩, rfl⟩, by decide, by decide, verifier_serving, rfl, by decide, rfl,
    committing_serving, rfl, rfl⟩

/-- A cab whose four slots are occupied. -/
def full : State := { cab with slots := ⟨some cardTrip, some cardTrip, some cardTrip, some cardTrip⟩ }

theorem witness_StartFareChecksInOrder :
    setArg 4 = none ∧ switchArg 2 = none ∧ selectionArg 1 9 = none ∧ selectionArg 1 0 = none
      ∧ setArg 3 = some .both ∧ switchArg 0 = some false ∧ selectionArg 1 8 = some (.manual 8)
      ∧ selectionArg 1 2 = some (.manual 2) ∧ selectionArg 0 0 = some .calendar
      ∧ Serving { cab with shift := some { shift with state := .onBreak }, sign := { cab.sign with shown := .offDuty } }
      ∧ Serving { cab with cal := coldCalendar } ∧ Serving committing ∧ committing.store.state ≠ .idle
      ∧ Serving { cab with store := unwrittenStore } ∧ (image.tariff 8).defined ≠ 1 ∧ (image.tariff 2).driverSelectable ≠ 1
      ∧ Serving full ∧ (∀ i, full.slot i ≠ none) ∧ full.firstTariff .calendar = some 1
      ∧ manualRefused full.store.active .calendar = false
      ∧ (carrying trip .hired).slot 3 = none ∧ StationSet.both.has .left = true ∧ (carrying trip .hired).isBound .left = true
      ∧ (carrying trip .hired).isBound .right = false ∧ trip.state.isActive = true
      ∧ Serving (carrying { trip with share := false } .hired) :=
  ⟨rfl, rfl, rfl, rfl, rfl, rfl, rfl, rfl, rfl, ⟨⟨rfl, rfl⟩, rfl⟩, ⟨⟨rfl, rfl⟩, rfl⟩, committing_serving, by decide,
    ⟨⟨rfl, rfl⟩, rfl⟩, by decide, by decide, ⟨⟨rfl, rfl⟩, rfl⟩, by decide, rfl, rfl, rfl, rfl, by decide, by decide, rfl,
    ⟨⟨rfl, rfl⟩, rfl⟩⟩

/-- A cab whose last slot alone is FREE, with a fare of L that shares. -/
def lastFree : State :=
  { cab with slots := ⟨some trip, some cardTrip, some cardTrip, none⟩, sign := { cab.sign with shown := .hired } }

theorem witness_StartFareCreatesTheFare :
    Serving lastFree ∧ setArg 2 = some .right ∧ switchArg 1 = some true ∧ selectionArg 0 7 = some .calendar
      ∧ lastFree.shift = some shift ∧ shift.state = .opened ∧ lastFree.cal.clockSet = true ∧ lastFree.store.state = .idle
      ∧ lastFree.store.valid = true ∧ manualRefused lastFree.store.active .calendar = false
      ∧ lastFree.firstTariff .calendar = some 1 ∧ lastFree.slot 3 = none ∧ (∀ j, j < 3 → lastFree.slot j ≠ none)
      ∧ (∀ x, StationSet.right.has x = true → lastFree.isBound x = false)
      ∧ (∀ j t, lastFree.slot j = some t → t.state.isActive = true → t.share = true ∧ true = true)
      ∧ Serving cab ∧ cab.slot 0 = none := by
  refine ⟨⟨⟨rfl, rfl⟩, rfl⟩, rfl, rfl, rfl, rfl, rfl, rfl, rfl, rfl, rfl, rfl, rfl, by decide, ?_, ?_, cab_serving, rfl⟩
  · intro x; cases x <;> decide
  · intro j t h; fin_cases j <;> simp [State.slot, lastFree, Four.get] at h <;> subst h <;> decide

/-- A RUNNING trip one metre short of a step that takes its total due to the threshold, 360, of its hold. -/
def nearHold : Trip := withHold { hold with amount := 400 } (plain 2390 0 1)

theorem nearHold_warns :
    WarnsHold (carrying nearHold .hired) nearHold
      (settleWindow ((carrying nearHold .hired).store.active.tariff nearHold.currentTariff) 1 nearHold)
      { hold with amount := 400 } := by
  refine ⟨?_, rfl, rfl, ?_⟩ <;> decide

theorem hold_unwarned :
    ¬ WarnsHold (carrying (withHold hold trip) .hired) (withHold hold trip)
      (settleWindow tariffOne 1 (withHold hold trip)) hold := by
  rintro ⟨h, -⟩; exact h (by decide)

theorem witness_PauseAndResumeFare :
    Serving (carrying trip .hired) ∧ slotArg 0 = some 0 ∧ (carrying trip .hired).slot 0 = some trip ∧ trip.state = .running
      ∧ trip.hold = none ∧ Serving (carrying { trip with state := .paused } .hired)
      ∧ Serving { cab with slots := ⟨none, none, none, some trip⟩, sign := { cab.sign with shown := .hired } }
      ∧ slotArg 3 = some 3
      ∧ Serving (carrying nearHold .hired) ∧ (carrying nearHold .hired).slot 0 = some nearHold ∧ nearHold.state = .running
      ∧ (carrying nearHold .hired).runningCount = 1 ∧ Serving (carrying (withHold hold trip) .hired) :=
  ⟨running_serving, rfl, rfl, rfl, rfl, ⟨⟨rfl, rfl⟩, rfl⟩, ⟨⟨rfl, rfl⟩, rfl⟩, rfl, ⟨⟨rfl, rfl⟩, rfl⟩, rfl, rfl, rfl,
    ⟨⟨rfl, rfl⟩, rfl⟩⟩

theorem witness_StopFareStopsAndAnnounces :
    Serving (carrying trip .hired) ∧ slotArg 0 = some 0 ∧ (carrying trip .hired).slot 0 = some trip
      ∧ (trip.state = .running ∨ trip.state = .paused) ∧ Serving (carrying { trip with state := .paused } .hired)
      ∧ Serving (carrying nearHold .hired) ∧ (carrying nearHold .hired).slot 0 = some nearHold
      ∧ nearHold.state = .running :=
  ⟨running_serving, rfl, rfl, .inl rfl, ⟨⟨rfl, rfl⟩, rfl⟩, ⟨⟨rfl, rfl⟩, rfl⟩, rfl, rfl⟩

theorem witness_ReopenFareWithinItsGrace :
    Serving (carrying stoppedTrip .hired) ∧ slotArg 0 = some 0 ∧ (carrying stoppedTrip .hired).slot 0 = some stoppedTrip
      ∧ stoppedTrip.state = .stopped ∧ stoppedTrip.grace = some { count := 0, attempted := false }
      ∧ Serving (carrying { stoppedTrip with grace := some ⟨19, false⟩ } .hired)
      ∧ Serving (carrying { stoppedTrip with grace := some ⟨20, false⟩ } .hired)
      ∧ Serving (carrying { stoppedTrip with grace := some ⟨0, true⟩ } .hired)
      ∧ cab.cal.tariff = some 1 ∧ stoppedTrip.selection = .calendar ∧ stoppedTrip.currentTariff = 1
      ∧ Serving { carrying stoppedTrip .hired with cal := { cab.cal with tariff := some 2 } } :=
  ⟨stopped_serving, rfl, rfl, rfl, rfl, ⟨⟨rfl, rfl⟩, rfl⟩, ⟨⟨rfl, rfl⟩, rfl⟩, ⟨⟨rfl, rfl⟩, rfl⟩, rfl, rfl, rfl,
    ⟨⟨rfl, rfl⟩, rfl⟩⟩

/-- The trip with one count of kind 1, at the due the cap leaves. -/
def extraTrip : Trip :=
  { trip with extras := [{ kind := 1, count := 1 }], stepTotal := 9999149, extrasTotal := 500, totalDue := 9999999 }

theorem witness_ExtrasMoveTheDue :
    Serving (carrying trip .hired) ∧ slotArg 0 = some 0 ∧ (carrying trip .hired).slot 0 = some trip
      ∧ (image.extraKind 1).amount = 500 ∧ (1 : Byte).toNat = 1 ∧ (9 : Byte).toNat = 9
      ∧ extraCount 1 trip.extras + 9 ≤ (image.extraKind 1).maximum ∧ trip.totalDue + 9 * 500 ≤ 9999999
      ∧ Serving (carrying stoppedTrip .hired) ∧ Serving (carrying extraTrip .hired)
      ∧ (∃ e ∈ extraTrip.extras, e.kind = 1)
      ∧ (∀ d ∈ [({ kind := 2, count := 1 } : Extra)], d.kind ≠ 1) ∧ 1 < ({ kind := 1, count := 2 } : Extra).count
      ∧ ({ kind := 1, count := 1 } : Extra).count ≤ 1 ∧ (∀ d ∈ [({ kind := 3, count := 1 } : Extra)], d.kind ≠ 1) :=
  ⟨running_serving, rfl, rfl, rfl, rfl, rfl, by decide, by decide, stopped_serving, ⟨⟨rfl, rfl⟩, rfl⟩,
    ⟨⟨1, 1⟩, by simp [extraTrip], rfl⟩, by decide, by decide, by decide, by decide⟩

theorem witness_ReleaseTripFreesTheSlot :
    Serving (carrying cardTrip .free) ∧ slotArg 0 = some 0 ∧ (carrying cardTrip .free).slot 0 = some cardTrip
      ∧ cardTrip.state = .settled ∧ cardTrip.number = (17 : Half).toNat ∧ cardTrip.hold = none
      ∧ Serving (carrying trip .hired) ∧ trip.state ≠ .settled ∧ cardTrip.number ≠ (18 : Half).toNat
      ∧ Serving (carrying (withHold { hold with state := .releasePending } cardTrip) .free)
      ∧ Serving (carrying (withHold { hold with state := .released } cardTrip) .free) :=
  ⟨settled_serving, rfl, rfl, rfl, rfl, rfl, running_serving, by decide, by decide, ⟨⟨rfl, rfl⟩, rfl⟩, ⟨⟨rfl, rfl⟩, rfl⟩⟩

theorem witness_StepsAndSegmentsAreBounded :
    trip.totalDue = trip.flagFall + trip.stepTotal + trip.extrasTotal ∧ trip.totalDue ≤ 9999999
      ∧ extraTrip.totalDue = extraTrip.flagFall + extraTrip.stepTotal + extraTrip.extrasTotal ∧ extraTrip.totalDue = 9999999
      ∧ ({ trip with segments := List.replicate 3 (newSegment 1 noon) } : Trip).segments.length < 4
      ∧ 4 ≤ ({ trip with segments := List.replicate 4 (newSegment 1 noon) } : Trip).segments.length := by decide

theorem witness_FareSecondWorksTheRecord :
    trip.segments.getLast? = some { tariff := 1, start := noon, metres := 0, seconds := 0, steps := 0 }
      ∧ trip.hiredSeconds ≤ 4294967295 ∧ (0 : Nat) ≤ 4294967295 := by decide

theorem witness_FareSecondCreditsTheRunning :
    cab.runningCount = 0 ∧ busy.runningCount = 2 ∧ busy.slot 0 = some trip ∧ trip.state = .running ∧ trip.hold = none
      ∧ (carrying stoppedTrip .hired).slot 0 = some stoppedTrip ∧ stoppedTrip.state ≠ .running ∧ busy.shift = some shift
      ∧ (carrying (withHold hold trip) .hired).slot 0 = some (withHold hold trip) ∧ (withHold hold trip).state = .running
      ∧ (withHold hold trip).payment = some { newPayment with hold := some hold } := by
  decide

theorem witness_HoldIsWarnedOnce :
    (carrying (withHold { hold with amount := 388 } trip) .hired).slot 0 = some (withHold { hold with amount := 388 } trip)
      ∧ (withHold { hold with amount := 388 } trip).payment = some { newPayment with hold := some { hold with amount := 388 } }
      ∧ 388 * image.holdWarning / 100 ≤ trip.totalDue ∧ hold.state = .held ∧ hold.warned = false
      ∧ trip.totalDue < 390 * image.holdWarning / 100 := by decide

theorem witness_DriverSettlesTheFare :
    Serving (carrying stoppedTrip .hired) ∧ slotArg 0 = some 0 ∧ (carrying stoppedTrip .hired).slot 0 = some stoppedTrip
      ∧ stoppedTrip.state = .stopped ∧ (9999999 : Word).toNat ≤ 9999999
      ∧ Serving (carrying (withHold hold stoppedTrip) .hired) :=
  ⟨stopped_serving, rfl, rfl, rfl, by decide, ⟨⟨rfl, rfl⟩, rfl⟩⟩

theorem witness_SettlementMoneyRisesTogether :
    Method.cash ≠ .unsettled ∧ shift.flagFallTotal + trip.flagFall ≤ 4294967295
      ∧ 4294967295 < ({ shift with cashFares := 4294966946 } : Shift).methodTotal .cash + trip.totalDue
      ∧ trip.flagFall ≤ ({ shift with flagFallTotal := 350, cardFares := 350 } : Shift).flagFallTotal
      ∧ trip.stepTotal ≤ shift.stepTotal ∧ trip.extrasTotal ≤ shift.extrasTotal
      ∧ trip.totalDue ≤ ({ shift with flagFallTotal := 350, cardFares := 350 } : Shift).cardFares
      ∧ shift.flagFallTotal < trip.flagFall := by decide

/-- A SETTLED trip whose hold awaits its release. -/
def releasing : Trip := withHold { hold with state := .releasePending } cardTrip

theorem witness_HoldsArePlacedAndReleased :
    Awake (carrying trip .hired) ∧ (carrying trip .hired).findTrip (17 : Half).toNat = some 0
      ∧ trip.stations.has .left = true ∧ (99999999 : Word).toNat ≤ 99999999 ∧ trip.hold = none
      ∧ (trip.state = .running ∨ trip.state = .paused) ∧ 100 ≤ (100 : Word).toNat ∧ (999999 : Word).toNat ≤ 999999
      ∧ Awake (carrying releasing .free) ∧ TripNumbersDiffer (carrying releasing .free)
      ∧ (∀ i t, (carrying releasing .free).slot i = some t → t.number ≠ 0)
      ∧ (∀ i t h, (carrying trip .hired).slot i = some t → t.hold = some h → False)
      ∧ releasing.hold = some { hold with state := .releasePending } ∧ hold.reference = (40112907 : Word).toNat
      ∧ (∀ j v g, (carrying releasing .free).slot j = some v → v.hold = some g → g.state = .releasePending →
          g.station = .left → g.reference = (40112907 : Word).toNat → releasing.number ≤ v.number) := by
  refine ⟨running_serving.1, rfl, rfl, by decide, rfl, .inl rfl, by decide, by decide, ⟨rfl, rfl⟩, ?_, ?_, ?_, rfl, rfl, ?_⟩
  · intro i j t u hi hj h; exact absurd ((carrying_slot hi).1.trans (carrying_slot hj).1.symm) h
  · intro i t h; rw [(carrying_slot h).2]; decide
  · intro i t g h hg; rw [(carrying_slot h).2] at hg; cases hg
  · intro j v g h _ _ _ _; rw [(carrying_slot h).2]

theorem witness_PaymentBeginsAndIsVoided :
    Awake (carrying stoppedTrip .hired) ∧ (carrying stoppedTrip .hired).findTrip (17 : Half).toNat = some 0
      ∧ stoppedTrip.stations.has .left = true ∧ stoppedTrip.state = .stopped
      ∧ stoppedTrip.paymentOrNew.declines ≠ image.declineLimit ∧ trip.state ≠ .stopped
      ∧ ({ stoppedTrip with payment := some { newPayment with declines := 3 } } : Trip).paymentOrNew.declines
          = image.declineLimit
      ∧ Awake (carrying cardTrip .free) ∧ (carrying cardTrip .free).findTrip (17 : Half).toNat = some 0
      ∧ cardTrip.state = .settled ∧ (carrying cardTrip .free).shift = some shift ∧ shift.state = .opened
      ∧ (∃ p, cardTrip.payment = some p ∧ p.method = .card ∧ p.cardRef = some (7700125 : Word).toNat)
      ∧ (∀ y, cardTrip.stations.has y = true → (carrying cardTrip .free).isBound y = false)
      ∧ (∀ j v, (carrying cardTrip .free).slot j = some v → v.state.isActive = true → v.share = true ∧ cardTrip.share = true) := by
  refine ⟨stopped_serving.1, rfl, rfl, rfl, by decide, by decide, rfl, settled_serving.1, rfl, rfl, rfl, rfl,
    ⟨_, rfl, rfl, rfl⟩, ?_, ?_⟩
  · intro y; cases y <;> decide
  · intro j v h ha; rw [(carrying_slot h).2] at ha; cases ha

theorem witness_PayResultSettlesOrReturns :
    Awake (carrying settlingTrip .hired) ∧ (carrying settlingTrip .hired).findTrip (17 : Half).toNat = some 0
      ∧ settlingTrip.stations.has .left = true ∧ (99999999 : Word).toNat ≤ 99999999 ∧ settlingTrip.state = .settling
      ∧ (451 : Word).toNat ≠ settlingTrip.totalDue + (100 : Word).toNat
      ∧ (455 : Word).toNat = settlingTrip.totalDue + (105 : Word).toNat
      ∧ (105 : Word).toNat = settlingTrip.totalDue * (image.tariff settlingTrip.currentTariff).tipCap / 100
      ∧ (456 : Word).toNat = settlingTrip.totalDue + (106 : Word).toNat
      ∧ settlingTrip.payment = some { newPayment with attempt := .inProgress, timer := 1 } :=
  ⟨⟨rfl, rfl⟩, rfl, rfl, by decide, rfl, by decide, by decide, by decide, by decide, rfl⟩

theorem witness_FareQueryAnswersTheBoundFare :
    Awake (carrying trip .hired) ∧ (carrying trip .hired).slot 0 = some trip ∧ trip.state.isActive = true
      ∧ trip.stations.has .left = true ∧ BoundOnce (carrying trip .hired)
      ∧ (∀ i t, (carrying trip .hired).slot i = some t → t.stations.has .right = true → t.state.isActive = false)
      ∧ (∀ a b c, Notice.due 1 400 ≠ .fare a b c) ∧ cab.link.notices.get .left = none := by
  refine ⟨running_serving.1, rfl, rfl, rfl, ?_, ?_, nofun, rfl⟩
  · intro x i j; revert i j; cases x <;> decide
  · intro i t h hr; rw [(carrying_slot h).2] at hr; cases hr

theorem witness_ClockIsSetAndAdjusted :
    Serving verifier ∧ (⟨2032, 2, 29, 23, 59, 59⟩ : Stamp).valid = true ∧ verifier.store.switchOpen = true
      ∧ (∀ i, verifier.slot i = none) ∧ Serving cab ∧ cab.shift = some shift ∧ shift.state ≠ .closing
      ∧ cab.cal.clockSet = true ∧ cab.runningCount = 0 ∧ firstStamp.valid = true ∧ lastStamp.valid = true
      ∧ (moveBy 1 lastStamp).2 = true ∧ (moveBy (-1) firstStamp).2 = true
      ∧ (29 : Nat) = (if (2 : Nat) = 2 then (if 2032 % 4 = 0 then 29 else 28)
        else if (2 : Nat) = 4 ∨ (2 : Nat) = 6 ∨ (2 : Nat) = 9 ∨ (2 : Nat) = 11 then 30 else 31)
      ∧ (⟨2032, 2, 29, 23, 59, 59⟩ : Stamp) ≠ ⟨2099, 12, 31, 23, 59, 59⟩
      ∧ (⟨2099, 12, 31, 23, 59, 58⟩ : Stamp) ≠ ⟨2099, 12, 31, 23, 59, 59⟩ :=
  ⟨verifier_serving, by decide, rfl, cab_slots, cab_serving, rfl, by decide, rfl, rfl, by decide, by decide, by decide,
    by decide, by decide, by decide, by decide⟩

theorem witness_EvaluationNamesTheTariff :
    cab.cal.clockSet = true ∧ cab.store.state ≠ .commitWrite ∧ cab.store.valid = true ∧ State.reset.cal.clockSet = false
      ∧ cab.scheduleImage = some image ∧ decideTariff image cab.cal.time = (1, .fallback) ∧ cab.cal.tariff = some 1
      ∧ ({ busy with cal := { cab.cal with tariff := some 2 } } : State).scheduleImage = some image
      ∧ busy.slot 1 = some otherTrip ∧ busy.slot 2 = none := by decide

theorem witness_StagingTakesItsItems :
    Serving verifier ∧ verifier.store.state = .idle ∧ verifier.store.stagingLoaded = true
      ∧ itemOf (1 : Half).toNat = some (.general .defaultTariff) ∧ itemOf (1125 : Half).toNat = some (.window 11 .tariff)
      ∧ verifier.store.switchOpen = true ∧ Serving cab ∧ cab.store.switchOpen = false :=
  ⟨verifier_serving, rfl, rfl, by decide, by decide, rfl, cab_serving, rfl⟩

theorem witness_CommitBeginsAndCompletes :
    Serving verifier ∧ verifier.store.state = .idle ∧ verifier.store.switchOpen = true ∧ verifier.store.latch = true
      ∧ verifier.store.stagingLoaded = true ∧ (∀ i, verifier.slot i = none) ∧ verifier.store.staging.firstBad = none
      ∧ (image.withItem 80 (.tariff 1 .share3)).firstBad = some (.tariff 1 .share3)
      ∧ committing.store.state = .commitWrite ∧ (∃ w, committing.store.write = some w ∧ w.image = some image) :=
  ⟨verifier_serving, rfl, rfl, rfl, rfl, cab_slots, by decide +kernel, by decide +kernel, rfl, ⟨_, rfl, rfl⟩⟩

/-- The cab in its mirror write. -/
def mirroring : State := { cab with store := cab.store.beginMirror cab.tot }

theorem witness_MirrorWriteCompletes :
    mirroring.store.state = .mirrorWrite ∧ (∃ w, mirroring.store.write = some w) ∧ mirroring.shift = some shift
      ∧ shift.state ≠ .closing ∧ ({ shift with state := .closing } : Shift).state = .closing :=
  ⟨rfl, ⟨_, rfl⟩, rfl, by decide, rfl⟩

theorem witness_ShiftOpensUnderItsNumber :
    Serving unshifted ∧ unshifted.shift = none ∧ unshifted.prev = none ∧ unshifted.cal.clockSet = true
      ∧ 1 ≤ (1 : Word).toNat ∧ (999999 : Word).toNat ≤ 999999 ∧ (0 : Word).toNat = 0 ∧ 999999 < (1000000 : Word).toNat
      ∧ Serving cab ∧ cab.shift ≠ none ∧ Serving { unshifted with prev := some shift }
      ∧ Serving { unshifted with cal := coldCalendar } :=
  ⟨⟨⟨rfl, rfl⟩, rfl⟩, rfl, rfl, rfl, by decide, by decide, by decide, by decide, cab_serving, by decide,
    ⟨⟨rfl, rfl⟩, rfl⟩, ⟨⟨rfl, rfl⟩, rfl⟩⟩

theorem witness_ReleaseShiftCollects :
    Serving { unshifted with prev := some shift } ∧ shift.number = (212 : Half).toNat ∧ shift.number ≠ (211 : Half).toNat
      ∧ Serving unshifted ∧ unshifted.prev = none ∧ ∃ t, exec (.shiftOpen 40117) unshifted = .next t :=
  ⟨⟨⟨rfl, rfl⟩, rfl⟩, by decide, by decide, ⟨⟨rfl, rfl⟩, rfl⟩, rfl, ⟨_, rfl⟩⟩

theorem witness_ShiftBreaksAndCloses :
    Serving cab ∧ cab.shift = some shift ∧ shift.state = .opened ∧ cab.anyActive = false
      ∧ Serving (carrying trip .hired) ∧ (carrying trip .hired).anyActive = true
      ∧ Serving { unshifted with shift := some { shift with state := .onBreak } }
      ∧ shift.state ≠ .closing ∧ cab.store.state = .idle ∧ cab.prev = none ∧ (∀ i, cab.slot i = none) :=
  ⟨cab_serving, rfl, rfl, rfl, running_serving, rfl, ⟨⟨rfl, rfl⟩, rfl⟩, by decide, rfl, rfl, cab_slots⟩

theorem witness_DriverCommandsMoveThePath :
    Serving (calling .free) ∧ stationArg 2 = some .right ∧ (calling .free).ic.isCalling .right = true
      ∧ Serving (calling (.linked .left)) ∧ (∀ g, (calling (.linked .left)).ic.path ≠ .talk g)
      ∧ Serving talking ∧ stationArg 1 = some .left ∧ talking.isBound .left = true
      ∧ (talking.ic.line .left).privacy = false ∧ talking.ic.isConnected .left = true
      ∧ (calling .free).isBound .left = true ∧ ((calling .free).ic.line .left).state = .idle
      ∧ (calling .free).ic.path = .free ∧ talkSetArg 3 = some .both
      ∧ Serving (calling (.talk .both)) ∧ (calling (.talk .both)).ic.path = .talk .both
      ∧ (calling (.linked .left)).ic.path ≠ .free ∧ talking.ic.tone = none ∧ (calling (.talk .both)).ic.tone = none
      ∧ (calling (.talk .both)).ic.isCalling .right = true :=
  ⟨⟨⟨rfl, rfl⟩, rfl⟩, rfl, rfl, ⟨⟨rfl, rfl⟩, rfl⟩, nofun, ⟨⟨rfl, rfl⟩, rfl⟩, rfl, rfl, rfl, rfl, rfl, rfl, rfl, rfl,
    ⟨⟨rfl, rfl⟩, rfl⟩, rfl, by decide, rfl, rfl, rfl⟩

/-- The state with a tracker of L. -/
def pressed (t : ButtonTracker) (s : State) : State := { s with ic := s.ic.onLine .left (fun l => { l with tracker := t }) }

/-- The cab with a trip for L, its button DOWN with count 12, and R's call chime sounding. -/
def ringing : State :=
  pressed (.down 12)
    { carrying trip .hired with ic := { coldIntercom with tone := some { station := .right, left := 4, queued := none } } }

theorem witness_ButtonSamplesCallOrToggle :
    asleep.supply.power ≠ .active
      ∧ (pressed (.down 12) (carrying trip .hired)).supply.power = .active
      ∧ ((pressed (.down 12) (carrying trip .hired)).ic.line .left).tracker = .down 12
      ∧ (pressed (.down 12) (carrying trip .hired)).isBound .left = true
      ∧ ((pressed (.down 12) (carrying trip .hired)).ic.line .left).state = .idle
      ∧ (pressed (.down 12) (carrying trip .hired)).ic.path = .free
      ∧ (pressed (.down 12) (carrying trip .hired)).ic.tone = none
      ∧ ringing.isBound .left = true ∧ (ringing.ic.line .left).tracker = .down 12 ∧ ringing.ic.path = .free
      ∧ ringing.ic.tone.map (·.station) = some Station.left.other
      ∧ (pressed (.down 12) (calling (.linked .right))).isBound .left = true
      ∧ ((pressed (.down 12) (calling (.linked .right))).ic.line .left).state = .idle
      ∧ (pressed (.down 12) (calling (.linked .right))).ic.path ≠ .free
      ∧ (pressed (.down 12) cab).isBound .left = false ∧ ((pressed (.down 12) cab).ic.line .left).tracker = .down 12
      ∧ ((pressed (.down 12) talking).ic.line .left).state ≠ .idle ∧ (pressed (.down 12) talking).isBound .left = true
      ∧ ((pressed (.down 39) (carrying trip .hired)).ic.line .left).tracker = .down 39
      ∧ (pressed (.down 39) (carrying trip .hired)).isBound .left = true
      ∧ ((pressed (.down 39) cab).ic.line .left).tracker = .down 39 ∧ (pressed (.down 39) cab).isBound .left = false
      ∧ ((pressed (.down 38) cab).ic.line .left).tracker = .down 38
      ∧ ((pressed .up cab).ic.line .left).tracker = .up ∧ (cab.ic.line .left).tracker = .long := by decide

/-- The cab with L's call chime at its last period, R's queued behind it, and a stop chime beginning at L. -/
def chiming : State :=
  { calling .free with
    ic := { (calling .free).ic.onLine .left (fun l => { l with fareChime := some { kind := .stop, left := 40 } }) with
      tone := some { station := .left, left := 1, queued := some .right } } }

theorem witness_TimersExpireAndChimesEnd :
    Awake (carrying settlingTrip .hired) ∧ (carrying settlingTrip .hired).slot 0 = some settlingTrip
      ∧ settlingTrip.state = .settling
      ∧ settlingTrip.payment = some { newPayment with attempt := .inProgress, timer := 1 }
      ∧ ((calling .free).ic.onLine .right (fun l => { l with callTimer := 1 })).isCalling .right = true
      ∧ (((calling .free).ic.onLine .right (fun l => { l with callTimer := 1 })).line .right).callTimer ≤ 1
      ∧ talking.ic.path = .linked .left ∧ talking.ic.connectionTimer ≤ 1
      ∧ ({ coldIntercom with path := .talk .left, talkTimer := 1 } : Intercom).talkTimer ≤ 1
      ∧ (calling .free).ic.path = .free ∧ (calling .free).ic.isCalling .right = true
      ∧ talking.ic.isConnected .left = true
      ∧ asleep.supply.power ≠ .active ∧ chiming.supply.power = .active
      ∧ chiming.ic.tone = some { station := .left, left := 1, queued := some .right } ∧ chiming.ic.path = .free
      ∧ chiming.ic.isCalling .right = true ∧ (chiming.ic.line .left).fareChime = some { kind := .stop, left := 40 }
      ∧ ringing.ic.tone = some { station := .right, left := 4, queued := none } ∧ cab.ic.tone = none :=
  ⟨⟨rfl, rfl⟩, rfl, rfl, rfl, rfl, by decide, rfl, by decide, by decide, rfl, rfl, rfl, by decide, rfl, rfl, rfl, rfl, rfl,
    rfl, rfl⟩

theorem witness_SignAndAlertAreSet :
    Serving cab ∧ switchArg 0 = some false ∧ switchArg 1 = some true ∧ cab.sign.tracker = .up
      ∧ Serving { cab with sign := { cab.sign with tracker := .held } }
      ∧ Awake { cab with sign := { cab.sign with tracker := .down 59 } } ∧ cab.sign.latch = false
      ∧ Awake { cab with sign := { cab.sign with tracker := .down 59, latch := true, shown := .alert } }
      ∧ Awake { cab with sign := { cab.sign with tracker := .down 58 } } ∧ cab.shift = some shift
      ∧ unpowered.supply.power = .holdover ∧ cab.supply.power ≠ .holdover
      ∧ asleep.supply.power = .standby ∧ SignFollows { asleep with sign := { asleep.sign with tracker := .down 59 } }
      ∧ asleep.sign.latch = false :=
  ⟨cab_serving, rfl, rfl, rfl, ⟨⟨rfl, rfl⟩, rfl⟩, ⟨rfl, rfl⟩, rfl, ⟨rfl, rfl⟩, ⟨rfl, rfl⟩, rfl, rfl, by decide, rfl, rfl,
    rfl⟩

theorem witness_LampsAreJudgedWhileLit :
    cab.supply.power = .active ∧ cab.sign.shown ≠ .alert ∧ asleep.supply.power ≠ .active
      ∧ ({ cab with sign := { cab.sign with latch := true, shown := .alert } } : State).sign.shown = .alert
      ∧ (⟨false, 3, 0, true⟩ : Lamp).faulted = false ∧ 4 ≤ (⟨false, 3, 0, true⟩ : Lamp).outRun + 1
      ∧ (⟨false, 2, 0, true⟩ : Lamp).outRun + 1 < 4 ∧ (⟨true, 0, 3, true⟩ : Lamp).faulted = true
      ∧ 4 ≤ (⟨true, 0, 3, true⟩ : Lamp).inRun + 1 ∧ (⟨true, 0, 2, true⟩ : Lamp).inRun + 1 < 4 := by decide

theorem witness_EdgesBecomeMetres :
    cab.dist.settings = some ⟨6250, .rising, 5⟩ ∧ cab.supply.power ≠ .holdover ∧ cab.dist.faulted = false
      ∧ cab.dist.accumulator + 1000 < 6250 ∧ 6250 ≤ ({ cab.dist with accumulator := 5250 } : Distance).accumulator + 1000
      ∧ cab.dist.window < 90 ∧ unpowered.supply.power = .holdover ∧ State.reset.dist.settings = none
      ∧ (1000 : Nat) ≤ 6250 ∧ cab.dist.accumulator < 6250 := by decide

theorem witness_MetreAtTheCapIsDiscarded :
    cab.dist.settings = some ⟨6250, .rising, 5⟩ ∧ cab.supply.power ≠ .holdover ∧ cab.dist.faulted = false
      ∧ 6250 ≤ ({ cab.dist with accumulator := 5250, window := 90 } : Distance).accumulator + 1000
      ∧ ({ cab.dist with accumulator := 5250, window := 90 } : Distance).window = 90
      ∧ ({ cab.dist with accumulator := 5250, window := 89 } : Distance).window < 90
      ∧ cab.dist.overspeed = false := by decide

theorem witness_LinesAreFiltered :
    cab.supply.power ≠ .holdover ∧ cab.dist.faulted = false ∧ cab.dist.settings = some ⟨6250, .rising, 5⟩
      ∧ ({ cab.dist with lowRun := 3 } : Distance).lowRun + 1 < 5 ∧ 5 ≤ ({ cab.dist with lowRun := 4 } : Distance).lowRun + 1
      ∧ State.reset.dist.settings = none
      ∧ ({ cab.dist with faulted := true, highRun := 3 } : Distance).faulted = true
      ∧ ({ cab.dist with faulted := true, highRun := 3 } : Distance).highRun + 1 < 5
      ∧ cab.store.switchOpen = false ∧ ({ cab.store with switchRun := 2 } : Store).switchRun = 2 ∧ cab.store.switchRun < 2
      ∧ verifier.store.switchOpen = true ∧ cab.supply.ignitionOn = true ∧ cab.supply.ignitionRun < 4
      ∧ ({ cab.supply with ignitionRun := 4 } : Supply).ignitionRun = 4 ∧ asleep.supply.ignitionOn = false
      ∧ asleep.supply.power = .standby := by decide

theorem witness_SensorRecoveryIsFiltered :
    cab.supply.power ≠ .holdover ∧ ({ cab.dist with faulted := true, highRun := 4 } : Distance).faulted = true
      ∧ cab.dist.settings = some ⟨6250, .rising, 5⟩
      ∧ ({ cab.dist with faulted := true, highRun := 4 } : Distance).highRun + 1 = 5 ∧ cab.dist.faulted = false
      ∧ ({ cab.dist with lowRun := 4 } : Distance).lowRun + 1 = 5
      ∧ State.reset.supply.power ≠ .holdover
      ∧ ({ State.reset.dist with faulted := true, highRun := 19 } : Distance).settings = none
      ∧ ({ State.reset.dist with faulted := true, highRun := 19 } : Distance).highRun + 1 = 20 := by decide

theorem witness_EventsAreReadAndCleared :
    Serving { cab with dash := { cab.dash with events := 0x4008, mask := 0x4000 } }
      ∧ (FrameState.answered 0 .ok [0, 0x40] (.clearEvents 0x4000) : FrameState) ≠ .idle
      ∧ cab.supply.standbyRequest = false
      ∧ ({ cab with dash := { cab.dash with events := 0x4008, mask := 0x4000 } } : State).dirqLow = true :=
  ⟨⟨⟨rfl, rfl⟩, rfl⟩, by decide, rfl, by decide⟩

theorem witness_FramesBeginAndEnd :
    unpowered.supply.power = .holdover ∧ busy.dash.drstLow = false ∧ busy.dash.frame = .idle ∧ busy.supply.power = .active
      ∧ busy.dash.watch = none ∧ asleep.supply.power = .standby ∧ asleep.dash.drstLow = false ∧ asleep.dash.frame = .idle
      ∧ cab.supply.standbyRequest = false ∧ Serving cab ∧ blockArg 4 = some (.display 3) ∧ blockArg 0 = some .status
      ∧ switchArg 1 = some true ∧ 4 < (5 : Byte).toNat ∧ 1 < (2 : Byte).toNat
      ∧ (Instr.badCommand 0x91).wellFormed = true ∧ (0x91 : Byte) ≠ 0xA5
      ∧ watched.dash.frame = .watching [1] ∧ watched.dash.counted = 0
      ∧ ({ watched.dash with counted := 1 } : DashLink).counted ≠ 0 :=
  ⟨rfl, rfl, rfl, rfl, rfl, rfl, rfl, rfl, rfl, cab_serving, rfl, rfl, rfl, by decide, by decide, by decide, by decide,
    rfl, rfl, by decide⟩

theorem witness_LinkResetKeepsTheRest :
    cab.supply.power ≠ .holdover ∧ (∀ g, cab.ic.path ≠ .talk g) ∧ (calling (.talk .both)).ic.path = .talk .both :=
  ⟨by decide, nofun, rfl⟩

theorem witness_NoticesArePostedByRank :
    coldLink.notices.get .left = none ∧ (Notice.due 17 350).rank ≤ (Notice.due 17 450).rank
      ∧ (Notice.due 17 350).rank < (Notice.ack 0x22 none 17 350).rank := by decide

/-- The cab with a notice for L. -/
def noticed : State := { cab with link := { coldLink with notices := ⟨some (.due 17 350), none⟩ } }

theorem witness_PartitionTransactionsAreJudged :
    cab.supply.power = .active ∧ stationArg 2 = some .right ∧ messageLength 0x21 ≠ some 3 ∧ messageLength 0x55 = none
      ∧ stationArg 3 = none ∧ noticed.link.notices.get noticed.link.selector = some (.due 17 350)
      ∧ (∀ i t h, noticed.slot i = some t → t.hold = some h → False)
      ∧ ({ carrying releasing .free with link := noticed.link } : State).link.notices.get .left = some (.due 17 350)
      ∧ (∀ j v, (carrying releasing .free).slot j = some v → j ≠ 0 → False)
      ∧ releasing.hold = some { hold with state := .releasePending }
      ∧ (∃ sent : Nat → List Byte, ∀ n, sent n
        = (noticeBytes cab.link.selector (cab.link.notices.get cab.link.selector) ++ List.replicate n 0xFF).take n)
      ∧ cab.link.notices.get cab.link.selector = none
      ∧ (after (.noticeRead .start) noticed).link.read
          = some { station := .left, copy := some (.due 17 350), replaced := false }
      ∧ (after (.noticeRead .start) cab).link.read = some { station := .left, copy := none, replaced := false }
      ∧ (after (.noticeRead .start) noticed).slots = noticed.slots
      ∧ (after (.noticeRead .start) { carrying releasing .free with link := noticed.link }).link.read
          = some { station := .left, copy := some (.due 17 350), replaced := false }
      ∧ (after (.noticeRead .start) { carrying releasing .free with link := noticed.link }).slots
          = (carrying releasing .free).slots := by
  refine ⟨rfl, rfl, by decide, by decide, rfl, rfl, ?_, rfl, ?_, rfl, ⟨_, fun _ => rfl⟩, rfl, rfl, rfl, rfl, rfl, rfl⟩
  · intro i t h hs; exact absurd ((cab_slots i).symm.trans hs) nofun
  · intro j v h hj; exact hj (carrying_slot h).1

theorem witness_StandbyIsEntered :
    Serving cab ∧ cab.anyActive = false ∧ cab.store.state = .idle ∧ Serving (carrying trip .hired)
      ∧ (carrying trip .hired).anyActive = true ∧ Serving mirroring ∧ mirroring.store.state ≠ .idle
      ∧ cab.supply.power = .active ∧ ({ cab.supply with standbyRequest := true } : Supply).standbyRequest = true
      ∧ ({ cab.supply with ignitionOn := false, offTimer := 299 } : Supply).ignitionOn = false
      ∧ 299 ≤ ({ cab.supply with ignitionOn := false, offTimer := 299 } : Supply).offTimer
      ∧ asleep.link.notices.get .left = none
      ∧ ({ asleep with slots := (carrying releasing .free).slots } : State).slot 0 = some releasing
      ∧ releasing.hold = some { hold with state := .releasePending } ∧ hold.station = .left
      ∧ (∀ j v, (carrying releasing .free).slot j = some v → j ≠ 0 → False) :=
  ⟨cab_serving, rfl, rfl, running_serving, rfl, ⟨⟨rfl, rfl⟩, rfl⟩, by decide, rfl, rfl, rfl, by decide, rfl, rfl, rfl, rfl,
    fun _ _ h hj => hj (carrying_slot h).1⟩

theorem witness_SupplyLossPausesAndKeeps :
    unpowered.supply.power = .holdover ∧ (shared trip stoppedTrip).supply.power ≠ .holdover
      ∧ (shared trip stoppedTrip).slot 0 = some trip ∧ trip.state = .running ∧ trip.hold = none
      ∧ (shared trip stoppedTrip).slot 1 = some stoppedTrip ∧ stoppedTrip.state ≠ .running
      ∧ (carrying nearHold .hired).supply.power ≠ .holdover ∧ (carrying nearHold .hired).slot 0 = some nearHold
      ∧ nearHold.state = .running ∧ (carrying nearHold .hired).runningCount = 1
      ∧ nearHold.payment = some { newPayment with hold := some { hold with amount := 400 } }
      ∧ (carrying (withHold hold trip) .hired).slot 0 = some (withHold hold trip) := by decide

theorem witness_SupplyReturnResumes :
    unpowered.supply.power = .holdover ∧ unpowered.supply.retention = true ∧ StoreIdleUnpowered unpowered
      ∧ ({ cab.store with marker := some .commit } : Store).marker = some .commit
      ∧ ({ cab.store with marker := some .mirror } : Store).marker = some .mirror
      ∧ ({ unpowered with slots := ⟨none, none, some { trip with state := .paused }, none⟩ } : State).slot 2
          = some { trip with state := .paused }
      ∧ ({ unpowered with slots := ⟨some releasing, none, none, none⟩ } : State).slot 0 = some releasing
      ∧ releasing.hold = some { hold with state := .releasePending }
      ∧ (∀ j w, j ≠ 0 → ({ unpowered with slots := ⟨some releasing, none, none, none⟩ } : State).slot j ≠ some w) := by
  refine ⟨rfl, rfl, fun _ => rfl, rfl, rfl, rfl, rfl, rfl, ?_⟩
  intro j w hj; fin_cases j <;> first | exact absurd rfl hj | exact Option.some_ne_none w ∘ Eq.symm

theorem witness_ColdStartBeginsAgain :
    ({ unpowered with supply := { unpowered.supply with retention := false }, store := unwrittenStore } : State).supply.power
        = .holdover
      ∧ ({ unpowered.supply with retention := false } : Supply).retention = false
      ∧ unpowered.dash.drstLow = false ∧ unpowered.pending = [] := by decide

/-- The cab asleep with its shift on a break, at the last second of a minute. -/
def resting : State :=
  { asleep with shift := some { shift with state := .onBreak }, cal := { asleep.cal with time := ⟨2031, 12, 30, 12, 0, 59⟩ } }

/-- The cab with the ignition OFF and no fare active, its ignition-off timer as given. -/
def parked (n : Nat) : State := { cab with supply := { cab.supply with ignitionOn := false, offTimer := n } }

theorem witness_SecondRolloverIsTaken :
    unpowered.supply.power = .holdover ∧ SignFollows unpowered ∧ unpowered.runningCount = 0 ∧ unpowered.dist.window = 0
      ∧ unpowered.dist.overspeed = false ∧ busy.supply.power = .active ∧ busy.slot 0 = some trip ∧ trip.state = .running
      ∧ trip.hold = none ∧ (nextSecond busy.cal.time).second ≠ 0
      ∧ stoppedTrip.grace = some { count := 0, attempted := false }
      ∧ 1 < ({ newPayment with timer := 90 } : Payment).timer
      ∧ 1 < ({ talking.ic with connectionTimer := 180 } : Intercom).connectionTimer ∧ busy.anyActive = true
      ∧ resting.supply.power = .standby ∧ SignFollows resting ∧ resting.runningCount = 0
      ∧ (nextSecond resting.cal.time).second = 0
      ∧ (carrying settlingTrip .hired).slot 0 = some settlingTrip ∧ (carrying settlingTrip .hired).runningCount = 0
      ∧ settlingTrip.payment = some { newPayment with attempt := .inProgress, timer := 1 }
      ∧ (∀ j w, j ≠ 0 → (carrying settlingTrip .hired).slot j = some w → w.state ≠ .settling)
      ∧ cab.supply.ignitionOn = true ∧ (calling .free).supply.ignitionOn = true ∧ (calling .free).anyActive = true
      ∧ (calling .free).ic.isCalling .right = true ∧ (calling .free).ic.path ≠ .linked .right
      ∧ 1 < ((calling .free).ic.line .right).callTimer ∧ (calling .free).ic.isCalling .left = false
      ∧ talking.supply.power = .active ∧ talking.ic.path = .linked .left ∧ talking.ic.connectionTimer ≤ 1
      ∧ talking.ic.isConnected .left = true ∧ (∀ y, talking.ic.isCalling y = true → False)
      ∧ (calling (.talk .both)).ic.path = .talk .both ∧ (calling (.talk .both)).ic.talkTimer ≤ 1
      ∧ (parked 298).supply.power = .active ∧ (parked 298).supply.ignitionOn = false ∧ (parked 298).anyActive = false
      ∧ (parked 298).supply.offTimer < 299 ∧ (parked 298).store.state = .idle ∧ 299 ≤ (parked 299).supply.offTimer
      ∧ ({ parked 300 with store := mirroring.store } : State).store.state ≠ .idle
      ∧ ({ busy with supply := { busy.supply with ignitionOn := false } } : State).anyActive = true
      ∧ (∃ next : Calendar → Calendar, ∀ c, next c =
        if c.time = ⟨2099, 12, 31, 23, 59, 59⟩ then
          { time := ⟨2000, 1, 1, 0, 0, 0⟩, weekday := .saturday, clockSet := false, tariff := none, deciding := none }
        else { c with time := nextSecond c.time, weekday := weekdayOf (nextSecond c.time) })
      ∧ (∃ minute : State → State, ∀ u, minute u = if u.cal.time.second = 0 then u.evaluate else u) := by
  refine ⟨rfl, rfl, rfl, rfl, rfl, rfl, rfl, rfl, rfl, by decide, rfl, by decide, by decide, rfl, rfl, rfl, rfl, by decide,
    rfl, rfl, rfl, ?_, rfl, rfl, rfl, rfl, by decide, by decide, rfl, rfl, rfl, by decide, rfl, ?_, rfl, by decide,
    rfl, rfl, rfl, by decide, rfl, by decide, by decide, rfl,
    ⟨_, fun _ => rfl⟩, ⟨_, fun _ => rfl⟩⟩
  · intro j w hj hw; exact absurd (carrying_slot hw).1 hj
  · intro y; cases y <;> decide

end Sys2Proof.Tests
end

section
/-! SUPPORT. What an event may do to the fare records: the record that follows another, the moves that every event is
made of, and that each command and each step is a chain of such moves. -/

namespace Sys2Proof.Machine

/-! ### What becomes of one record -/

/-- R2, R21, R25, R29: the record `v` that an event in power state `p` leaves of the record `u`: the same trip at the same
stations, its due still the sum of its parts, not active anew, RUNNING anew in ACTIVE alone, and its window emptied or
kept, the latter not where the fare stops running. -/
structure Trip.Heir (p : PowerState) (u v : Trip) : Prop where
  number : v.number = u.number
  stations : v.stations = u.stations
  due : u.totalDue = u.flagFall + u.stepTotal + u.extrasTotal → v.totalDue = v.flagFall + v.stepTotal + v.extrasTotal
  active : v.state.isActive = true → u.state.isActive = true
  running : v.state = .running → u.state = .running ∨ p = .active
  window : v.window = 0 ∨ (v.window = u.window ∧ (u.state = .running → v.state = .running))

theorem Trip.Heir.refl (p : PowerState) (u : Trip) : Trip.Heir p u u :=
  ⟨rfl, rfl, id, id, .inl, .inr ⟨rfl, id⟩⟩

theorem Trip.Heir.trans {p : PowerState} {u v w : Trip} (a : Trip.Heir p u v) (b : Trip.Heir p v w) : Trip.Heir p u w where
  number := b.number.trans a.number
  stations := b.stations.trans a.stations
  due := b.due ∘ a.due
  active := a.active ∘ b.active
  running h := (b.running h).elim a.running .inr
  window := by
    rcases b.window with h | ⟨h, hr⟩
    · exact .inl h
    · rcases a.window with h' | ⟨h', hr'⟩
      · exact .inl (h.trans h')
      · exact .inr ⟨h.trans h', hr ∘ hr'⟩

/-- A record whose state, number, stations, window and due with its parts are kept follows the one it was. -/
theorem Trip.Heir.of_eq {p : PowerState} {u v : Trip} (hs : v.state = u.state) (hn : v.number = u.number)
    (hx : v.stations = u.stations) (hw : v.window = u.window) (hd : v.totalDue = u.totalDue)
    (hf : v.flagFall = u.flagFall) (ht : v.stepTotal = u.stepTotal) (he : v.extrasTotal = u.extrasTotal) :
    Trip.Heir p u v :=
  ⟨hn, hx, fun h => by rw [hd, hf, ht, he, h], fun h => hs ▸ h, fun h => .inl (hs ▸ h), .inr ⟨hw, fun h => hs ▸ h⟩⟩

/-- A record that comes to a stop with its window empty, or from a state other than RUNNING, follows the one it was. -/
theorem Trip.Heir.of_halt {p : PowerState} {u v : Trip} (hs : v.state ≠ .running)
    (ha : v.state.isActive = true → u.state.isActive = true) (hn : v.number = u.number) (hx : v.stations = u.stations)
    (hw : v.window = u.window) (hz : u.state = .running → u.window = 0) (hd : v.totalDue = u.totalDue)
    (hf : v.flagFall = u.flagFall) (ht : v.stepTotal = u.stepTotal) (he : v.extrasTotal = u.extrasTotal) :
    Trip.Heir p u v := by
  refine ⟨hn, hx, fun h => by rw [hd, hf, ht, he, h], ha, fun h => absurd h hs, ?_⟩
  by_cases hr : u.state = .running
  · exact .inl (hw.trans (hz hr))
  · exact .inr ⟨hw, fun h => absurd h hr⟩

/-- R2: the steps of a second keep the total due the sum of its parts. -/
theorem takeSteps_due (amount n : Nat) (t : Trip) (h : t.totalDue = t.flagFall + t.stepTotal + t.extrasTotal) :
    (takeSteps amount n t).totalDue
      = (takeSteps amount n t).flagFall + (takeSteps amount n t).stepTotal + (takeSteps amount n t).extrasTotal := by
  induction n generalizing t with
  | zero => exact h
  | succ n ih => exact ih _ (takeStep_due amount t h)

/-- R32: a value charged takes its steps, and moves the progress and the remainder besides. -/
theorem charge_eq (tar : Tariff) (v percent : Nat) (t : Trip) :
    charge tar v percent t = { takeSteps tar.stepAmount (stepsEarned tar v percent t) t with
      remainder := scaledSum v percent t % 100
      progress := grownProgress v percent t - stepsEarned tar v percent t * tar.stepSize } :=
  takeSteps_progress ..

/-- R2: a value charged and counted up keeps the total due the sum of its parts. -/
theorem countUp_charge_heir (p : PowerState) (metres seconds steps : Nat) (tar : Tariff) (v percent : Nat) (t : Trip) :
    Trip.Heir p t (countUp metres seconds steps (charge tar v percent t)) := by
  have f := takeSteps_frame tar.stepAmount (stepsEarned tar v percent t) t
  obtain ⟨hn, hs, hx, -⟩ := f
  rw [charge_eq]
  refine ⟨hn, hx, takeSteps_due _ _ t, ?_, ?_, .inl rfl⟩
  · intro h; simpa [countUp, hs] using h
  · intro h; exact .inl (by simpa [countUp, hs] using h)

theorem creditSecond_heir (p : PowerState) (tar : Tariff) (k : Nat) (t : Trip) : Trip.Heir p t (creditSecond tar k t) :=
  countUp_charge_heir ..

theorem settleWindow_heir (p : PowerState) (tar : Tariff) (k : Nat) (t : Trip) : Trip.Heir p t (settleWindow tar k t) :=
  countUp_charge_heir ..

theorem withHold_heir (p : PowerState) (t : Trip) (h : Hold) : Trip.Heir p t (t.withHold h) :=
  .of_eq rfl rfl rfl rfl rfl rfl rfl rfl

theorem startSegment_heir (p : PowerState) (img : Image) (n : Nat) (now : Stamp) (t : Trip) :
    Trip.Heir p t (startSegment img n now t) := by
  unfold startSegment
  split <;> exact .of_eq rfl rfl rfl rfl rfl rfl rfl rfl

theorem paymentTicked_heir (p : PowerState) (t : Trip) : Trip.Heir p t t.paymentTicked := by
  unfold Trip.paymentTicked
  split
  · rename_i hs
    split
    · exact .of_halt (by simp [Trip.endPayment]) (by simp [hs, FareState.isActive]) rfl rfl rfl
        (by simp [hs]) rfl rfl rfl rfl
    · exact .of_eq rfl rfl rfl rfl rfl rfl rfl rfl
  · exact .refl p t

/-! ### The records of two states -/

/-- Every record of `t` follows one of `s`, that of its own slot where trip numbers differ. -/
def Descends (s t : State) : Prop :=
  ∀ j v, t.slot j = some v → ∃ i u, s.slot i = some u ∧ Trip.Heir s.supply.power u v ∧ (TripNumbersDiffer s → i = j)

/-- The event moves the records alone, each to one that follows it: the global window, the power state and the shift's
state are kept, and no commit write begins. -/
structure KeepsFares (s t : State) : Prop where
  records : Descends s t
  window : t.dist.window = s.dist.window
  power : t.supply.power = s.supply.power
  shift : t.shift.map (·.state) = s.shift.map (·.state)
  commit : t.store.state = .commitWrite → s.store.state = .commitWrite

/-- Where trip numbers differ, each record follows that of its own slot. -/
theorem Descends.slot {s t : State} (h : Descends s t) (hd : TripNumbersDiffer s) {j : Fin 4} {v : Trip}
    (hv : t.slot j = some v) : ∃ u, s.slot j = some u ∧ Trip.Heir s.supply.power u v := by
  obtain ⟨i, u, hu, hh, hi⟩ := h j v hv
  exact ⟨u, hi hd ▸ hu, hh⟩

/-- R4: trip numbers that differ still differ where each record follows one. -/
theorem Descends.tripNumbersDiffer {s t : State} (h : Descends s t) (hd : TripNumbersDiffer s) : TripNumbersDiffer t := by
  intro i j v w hv hw hij
  obtain ⟨u, hu, a⟩ := h.slot hd hv
  obtain ⟨x, hx, b⟩ := h.slot hd hw
  rw [a.number, b.number]
  exact hd i j u x hu hx hij

theorem KeepsFares.trans {s t u : State} (a : KeepsFares s t) (b : KeepsFares t u) : KeepsFares s u where
  records j w hw := by
    obtain ⟨i, v, hv, hb, hi⟩ := b.records j w hw
    obtain ⟨i', x, hx, ha, hi'⟩ := a.records i v hv
    refine ⟨i', x, hx, ha.trans (a.power ▸ hb), fun hd => ?_⟩
    exact (hi' hd).trans (hi (a.records.tripNumbersDiffer hd))
  window := b.window.trans a.window
  power := b.power.trans a.power
  shift := b.shift.trans a.shift
  commit := a.commit ∘ b.commit

/-- What the conditions on the fares read of a state beside its records. -/
structure SameFares (s t : State) : Prop where
  slots : t.slots = s.slots
  window : t.dist.window = s.dist.window
  power : t.supply.power = s.supply.power
  shift : t.shift.map (·.state) = s.shift.map (·.state)
  commit : t.store.state = .commitWrite → s.store.state = .commitWrite

theorem SameFares.trans {s t u : State} (a : SameFares s t) (b : SameFares t u) : SameFares s u :=
  ⟨b.slots.trans a.slots, b.window.trans a.window, b.power.trans a.power, b.shift.trans a.shift, a.commit ∘ b.commit⟩

/-- A credit to the shift that keeps its state. -/
theorem State.credit_same {f : Shift → Shift} (h : ∀ sh, (f sh).state = sh.state) (s : State) :
    SameFares s (s.credit f) :=
  ⟨rfl, rfl, rfl, by simp [Function.comp_def, h], id⟩

theorem SameFares.keeps {s t : State} (h : SameFares s t) : KeepsFares s t where
  records j v hv := ⟨j, v, State.slot_congr h.slots j ▸ hv, .refl _ v, fun _ => rfl⟩
  window := h.window
  power := h.power
  shift := h.shift
  commit := h.commit

/-- Changes that leave the fares, made before ones that move the records alone. -/
theorem KeepsFares.after {s t u : State} (h : KeepsFares t u) (hs : SameFares s t) : KeepsFares s u := hs.keeps.trans h

/-- Changes that leave the fares, made after ones that move the records alone. -/
theorem KeepsFares.andSame {s t u : State} (h : KeepsFares s t) (hs : SameFares t u) : KeepsFares s u := h.trans hs.keeps

theorem State.raise_same (e : Event) (s : State) : SameFares s (s.raise e) := ⟨rfl, rfl, rfl, rfl, id⟩

theorem KeepsFares.refl (s : State) : KeepsFares s s := SameFares.keeps ⟨rfl, rfl, rfl, rfl, id⟩

/-- A record replaced by one that follows it. -/
theorem KeepsFares.putSlot {s : State} {i : Fin 4} {u v : Trip} (hu : s.slot i = some u)
    (h : Trip.Heir s.supply.power u v) : KeepsFares s (s.putSlot i (some v)) where
  records j w hw := by
    rw [State.putSlot_slot] at hw
    split at hw
    · rename_i e; cases hw; exact ⟨i, u, hu, h, fun _ => e.symm⟩
    · exact ⟨j, w, hw, .refl _ w, fun _ => rfl⟩
  window := rfl
  power := rfl
  shift := rfl
  commit := id

/-- R1: a slot freed. -/
theorem KeepsFares.freeSlot (s : State) (i : Fin 4) : KeepsFares s (s.putSlot i none) where
  records j w hw := by
    rw [State.putSlot_slot] at hw
    split at hw
    · cases hw
    · exact ⟨j, w, hw, .refl _ w, fun _ => rfl⟩
  window := rfl
  power := rfl
  shift := rfl
  commit := id

/-- The record of a slot changed to one that follows it. -/
theorem KeepsFares.modSlot {s : State} {i : Fin 4} {f : Trip → Trip}
    (h : ∀ u, s.slot i = some u → Trip.Heir s.supply.power u (f u)) : KeepsFares s (s.modSlot i f) := by
  unfold State.modSlot
  cases hu : s.slot i with
  | none => exact .freeSlot s i
  | some u => exact .putSlot hu (h u hu)

/-- An operation on each slot in order, each part of which moves the records alone. -/
theorem KeepsFares.forSlots {f : Fin 4 → State → State} (h : ∀ i s, KeepsFares s (f i s)) (s : State) :
    KeepsFares s (Machine.forSlots f s) :=
  (((h 0 s).trans (h 1 _)).trans (h 2 _)).trans (h 3 _)

/-! ### The shared operations on the records -/

theorem State.holdWarning_keeps (i : Fin 4) (s : State) : KeepsFares s (s.holdWarning i) := by
  rcases State.holdWarning_cases i s with e | ⟨t, h, ht, -, -, e⟩ <;> rw [e]
  · exact .refl s
  · exact (KeepsFares.putSlot ht (withHold_heir _ t _)).trans (SameFares.keeps ⟨rfl, rfl, rfl, rfl, id⟩)

theorem State.engine_keeps {i : Fin 4} {old new : Trip} {s : State} (h : s.slot i = some old)
    (hn : Trip.Heir s.supply.power old new) : KeepsFares s (s.engine i old new) := by
  unfold State.engine
  split
  · exact .putSlot h hn
  · exact (KeepsFares.putSlot h hn).trans (State.holdWarning_keeps i _)

theorem State.settleSlot_keeps (k : Nat) (i : Fin 4) (s : State) : KeepsFares s (s.settleSlot k i) := by
  unfold State.settleSlot
  split
  · exact .refl s
  · rename_i t h
    split
    · exact State.engine_keeps h (settleWindow_heir ..)
    · exact .refl s

theorem State.creditSlot_keeps (k : Nat) (i : Fin 4) (s : State) : KeepsFares s (s.creditSlot k i) := by
  unfold State.creditSlot
  split
  · exact .refl s
  · rename_i t h
    split
    · exact State.engine_keeps h (creditSecond_heir ..)
    · exact .refl s

/-- R39: after the settlement of a slot no RUNNING fare there has metres left in its window. -/
theorem State.settleSlot_window {k : Nat} {i : Fin 4} {s : State} {v : Trip} (h : (s.settleSlot k i).slot i = some v)
    (hr : v.state = .running) : v.window = 0 := by
  unfold State.settleSlot at h
  split at h
  · rename_i e; rw [e] at h; cases h
  · rename_i t e
    split at h
    · obtain ⟨u, hu, -, hw, -⟩ := State.engine_slot i t (settleWindow (s.tariffOf t) k t) s
      rw [hu] at h; cases h
      rw [hw, (settleWindow_frame ..).2.1]
    · rename_i hne; rw [e] at h; cases h; exact absurd hr hne

/-- R36: after the credit of a slot no RUNNING fare there has metres left in its window. -/
theorem State.creditSlot_window {k : Nat} {i : Fin 4} {s : State} {v : Trip} (h : (s.creditSlot k i).slot i = some v)
    (hr : v.state = .running) : v.window = 0 := by
  unfold State.creditSlot at h
  split at h
  · rename_i e; rw [e] at h; cases h
  · rename_i t e
    split at h
    · obtain ⟨u, hu, -, hw, -⟩ := State.engine_slot i t (creditSecond (s.tariffOf t) k t) s
      rw [hu] at h; cases h
      rw [hw, (creditSecond_frame ..).2.1]
    · rename_i hne; rw [e] at h; cases h; exact absurd hr hne

/-- An operation on each slot in order that changes no other slot leaves in slot `j` what its own part leaves there. -/
theorem forSlots_slot {f : Fin 4 → State → State} (h : ∀ i j s, j ≠ i → (f i s).slot j = s.slot j) (s : State)
    (j : Fin 4) : ∃ u : State, u.slot j = s.slot j ∧ (forSlots f s).slot j = (f j u).slot j := by
  unfold forSlots
  fin_cases j
  · exact ⟨s, rfl, by simp [h 3, h 2, h 1]⟩
  · exact ⟨f 0 s, by simp [h 0], by simp [h 3, h 2]⟩
  · exact ⟨f 1 (f 0 s), by simp [h 1, h 0], by simp [h 3]⟩
  · exact ⟨f 2 (f 1 (f 0 s)), by simp [h 2, h 1, h 0], rfl⟩

/-- No RUNNING fare has metres left in its window. -/
def WindowsEmpty (s : State) : Prop := ∀ j v, s.slot j = some v → v.state = .running → v.window = 0

theorem State.settleAll_windowsEmpty (k : Nat) (s : State) : WindowsEmpty (forSlots (State.settleSlot k) s) := by
  intro j v hv hr
  obtain ⟨u, -, e⟩ := forSlots_slot (f := State.settleSlot k) (fun i j s h => State.settleSlot_slot_ne h s) s j
  exact State.settleSlot_window (e ▸ hv) hr

theorem State.runningCount_eq_zero {s : State} : s.runningCount = 0 ↔ ∀ j v, s.slot j = some v → v.state ≠ .running := by
  have e : s.runningCount = 0 ↔ ∀ j, runningSlot (s.slot j) = false := by
    simp [State.runningCount, Four.list, State.slot, Fin.forall_fin_succ, Four.get]
  rw [e]
  refine forall_congr' fun j => ?_
  cases s.slot j <;> simp [runningSlot]

theorem State.fareSecond_windowsEmpty (s : State) : WindowsEmpty s.fareSecond := by
  unfold State.fareSecond
  split
  · rename_i h
    intro j v hv hr
    exact absurd hr (State.runningCount_eq_zero.1 h j v hv)
  · intro j v hv hr
    obtain ⟨u, -, e⟩ := forSlots_slot (f := State.creditSlot s.runningCount)
      (fun i j s h => State.creditSlot_slot_ne h s) s j
    exact State.creditSlot_window (e ▸ hv) hr

theorem State.fareSecond_keeps (s : State) : KeepsFares s s.fareSecond := by
  unfold State.fareSecond
  split
  · exact .refl s
  · refine (KeepsFares.forSlots (State.creditSlot_keeps s.runningCount) s).trans (SameFares.keeps ?_)
    exact State.credit_same (fun _ => by rfl) _

/-- R25, R40: every RUNNING fare is settled before it is PAUSED, so that no window is left. -/
theorem State.pauseAll_keeps (s : State) : KeepsFares s s.pauseAll := by
  refine (KeepsFares.forSlots (State.settleSlot_keeps s.runningCount) s).trans ?_
  have hw := State.settleAll_windowsEmpty s.runningCount s
  have h : ∀ i u, WindowsEmpty u → KeepsFares u (powerPause i u) ∧ WindowsEmpty (powerPause i u) := by
    intro i u hu
    refine ⟨.modSlot fun v hv => ?_, fun j v hv hr => ?_⟩
    · split
      · rename_i hs
        exact .of_halt (by simp) (by simp [hs, FareState.isActive]) rfl rfl rfl (hu i v hv) rfl rfl rfl rfl
      · exact .refl _ v
    · rw [powerPause, State.modSlot_slot] at hv
      split at hv
      · rw [Option.map_eq_some_iff] at hv
        obtain ⟨x, hx, rfl⟩ := hv
        split at hr
        · cases hr
        · rename_i hne; exact absurd hr hne
      · exact hu j v hv hr
  obtain ⟨k0, w0⟩ := h 0 _ hw
  obtain ⟨k1, w1⟩ := h 1 _ w0
  obtain ⟨k2, w2⟩ := h 2 _ w1
  exact ((k0.trans k1).trans k2).trans (h 3 _ w2).1

/-- R25: a supply loss leaves no fare RUNNING. -/
theorem State.pauseAll_not_running (s : State) (j : Fin 4) (v : Trip) (h : s.pauseAll.slot j = some v) :
    v.state ≠ .running := by
  have e : ∀ u, (forSlots powerPause u).slot j = (u.slot j).map (fun t =>
      if t.state = .running then { t with state := .paused, powerPaused := true } else t) := by
    intro u; fin_cases j <;> rfl
  rw [State.pauseAll, e, Option.map_eq_some_iff] at h
  obtain ⟨u, -, rfl⟩ := h
  split
  · simp
  · assumption

theorem State.switchSlot_keeps (n : Nat) (i : Fin 4) (s : State) : KeepsFares s (s.switchSlot n i) :=
  .modSlot fun u _ => by
    split
    · exact startSegment_heir ..
    · exact .refl _ u

theorem State.evaluate_keeps (s : State) : KeepsFares s s.evaluate := by
  rcases State.evaluate_cases s with e | ⟨d, e⟩ | ⟨n, d, -, e⟩ <;> rw [e]
  · exact .refl s
  · exact SameFares.keeps ⟨rfl, rfl, rfl, rfl, id⟩
  · refine KeepsFares.trans ?_ (KeepsFares.forSlots (State.switchSlot_keeps n) _)
    exact SameFares.keeps ⟨rfl, rfl, rfl, rfl, id⟩

theorem State.fareTimers_keeps (s : State) : KeepsFares s s.fareTimers where
  records j v hv := by
    rw [State.fareTimers_slot, Option.map_eq_some_iff] at hv
    obtain ⟨u, hu, rfl⟩ := hv
    refine ⟨j, u, hu, ?_, fun _ => rfl⟩
    refine Trip.Heir.trans ?_ (paymentTicked_heir _ _)
    split
    · exact .of_eq rfl rfl rfl rfl rfl rfl rfl rfl
    · exact .refl _ u
  window := by simp
  power := by simp
  shift := by simp
  commit := by simp

end Sys2Proof.Machine
end

section
/-! SUPPORT. The trip number START FARE takes (R4), and the elementary moves that the fares make, with what each keeps. -/

namespace Sys2Proof.Machine

/-! ### Trip numbers (R4) -/

/-- R4: `d` numbers on from `n`, past 65,535 from 1 on. -/
theorem nextNumber_iterate (n d : Nat) (h : d < 65535) :
    nextNumber^[d] n = if n ≤ 65535 ∧ 65535 < n + d then n + d - 65535 else n + d := by
  induction d with
  | zero => simp
  | succ d ih =>
    rw [Function.iterate_succ_apply', ih (by omega)]
    unfold nextNumber
    split <;> split <;> split <;> omega

/-- R4: the number found lies on the way from the counter, every number passed over is held, and it is held itself only
where the fuel ran out. -/
theorem freshNumber_spec (held : List Nat) (fuel n : Nat) :
    ∃ k, k ≤ fuel ∧ freshNumber held fuel n = nextNumber^[k] n ∧ (∀ m, m < k → nextNumber^[m] n ∈ held)
      ∧ (freshNumber held fuel n ∈ held → k = fuel) := by
  induction fuel generalizing n with
  | zero => exact ⟨0, Nat.le_refl 0, rfl, fun m h => absurd h (Nat.not_lt_zero m), fun _ => rfl⟩
  | succ fuel ih =>
    unfold freshNumber
    split
    · rename_i hn
      obtain ⟨k, hk, e, hm, hf⟩ := ih (nextNumber n)
      refine ⟨k + 1, by omega, e, fun m h => ?_, fun h => by rw [hf h]⟩
      cases m with
      | zero => exact hn
      | succ m => exact hm m (by omega)
    · rename_i hn
      exact ⟨0, Nat.zero_le _, rfl, fun m h => absurd h (Nat.not_lt_zero m), fun h => absurd h hn⟩

/-- R4: with a number of fuel for every held number, the number found is not held. -/
theorem freshNumber_not_held (held : List Nat) (n : Nat) (hl : held.length < 65535) :
    freshNumber held held.length n ∉ held := by
  obtain ⟨k, -, e, hm, hf⟩ := freshNumber_spec held held.length n
  intro h
  have hk := hf h
  have hsub : ∀ m, m ≤ held.length → nextNumber^[m] n ∈ held := by
    intro m hle
    rcases Nat.lt_or_eq_of_le hle with hlt | heq
    · exact hm m (hk ▸ hlt)
    · rw [heq, ← hk, ← e]; exact h
  have hnd : ((List.range (held.length + 1)).map (fun m => nextNumber^[m] n)).Nodup := by
    refine List.Nodup.map_on ?_ List.nodup_range
    intro a ha b hb hab
    rw [List.mem_range] at ha hb
    rw [nextNumber_iterate n a (by omega), nextNumber_iterate n b (by omega)] at hab
    split at hab <;> split at hab <;> omega
  have hle := (List.subperm_of_subset hnd (l₂ := held) (by
    intro x hx
    obtain ⟨m, hm', rfl⟩ := List.mem_map.1 hx
    exact hsub m (Nat.le_of_lt_succ (List.mem_range.1 hm')))).length_le
  simp at hle

theorem State.heldNumbers_length_le (s : State) : s.heldNumbers.length ≤ 4 := by
  rw [State.heldNumbers, List.length_map]
  exact List.length_filterMap_le id s.slots.list

/-- R4: a number is held when an occupied slot has it. -/
theorem State.mem_heldNumbers (s : State) (n : Nat) : n ∈ s.heldNumbers ↔ ∃ i t, s.slot i = some t ∧ t.number = n := by
  rw [State.heldNumbers, List.mem_map]
  constructor
  · rintro ⟨t, ht, rfl⟩
    obtain ⟨i, hi⟩ := (State.mem_trips s t).1 ht
    exact ⟨i, t, hi, rfl⟩
  · rintro ⟨i, t, hi, rfl⟩
    exact ⟨t, (State.mem_trips s t).2 ⟨i, hi⟩, rfl⟩

/-- R4: the number START FARE takes is held by no occupied slot. -/
theorem State.takenNumber_fresh (s : State) (sh : Shift) (i : Fin 4) (t : Trip) (h : s.slot i = some t) :
    t.number ≠ s.takenNumber sh := by
  intro e
  refine freshNumber_not_held s.heldNumbers sh.nextTrip ?_ ((State.mem_heldNumbers s _).2 ⟨i, t, h, e⟩)
  have := s.heldNumbers_length_le
  omega

/-! ### What the slots say together -/

theorem State.isBound_eq_false {s : State} {x : Station} :
    s.isBound x = false ↔ ∀ i, bindsStation x (s.slot i) = false := by
  simp [State.isBound, Four.list, State.slot, Fin.forall_fin_succ, Four.get]

theorem bindsStation_some {x : Station} {t : Trip} :
    bindsStation x (some t) = true ↔ t.state.isActive = true ∧ t.stations.has x = true := by
  simp [bindsStation]

theorem bindsStation_iff {x : Station} {o : Option Trip} :
    bindsStation x o = true ↔ ∃ t, o = some t ∧ t.state.isActive = true ∧ t.stations.has x = true := by
  cases o <;> simp [bindsStation]

theorem State.anyBound_eq_false {s : State} {g : StationSet} :
    s.anyBound g = false ↔ ∀ x, g.has x = true → s.isBound x = false := by
  unfold State.anyBound
  constructor
  · intro h x hx
    cases g <;> cases x <;> simp_all [StationSet.members, StationSet.has]
  · intro h
    have hl := h .left
    have hr := h .right
    cases g <;> simp_all [StationSet.members, StationSet.has]

theorem State.anyActive_eq_false {s : State} :
    s.anyActive = false ↔ ∀ i t, s.slot i = some t → t.state.isActive = false := by
  have e : s.anyActive = false ↔ ∀ i, activeSlot (s.slot i) = false := by
    simp [State.anyActive, Four.list, State.slot, Fin.forall_fin_succ, Four.get]
  rw [e]
  refine forall_congr' fun i => ?_
  cases s.slot i <;> simp [activeSlot]

theorem State.anyOccupied_eq_false {s : State} : s.anyOccupied = false ↔ ∀ i, s.slot i = none := by
  simp [State.anyOccupied, Four.list, State.slot, Fin.forall_fin_succ, Four.get]

/-! ### The moves -/

/-- The elementary moves of the fares: every event is a chain of these. Each is a whole change of the state; what an event
changes besides is a `keeps`. -/
inductive FareMove : State → State → Prop
  /-- The records alone move, each to one that follows it. -/
  | keeps {s t : State} (h : KeepsFares s t) : FareMove s t
  /-- R7: a new fare in a FREE slot. -/
  | starts {s : State} {i : Fin 4} {sh : Shift} {number : Nat} {g : StationSet} (share : Bool) (sel : Selection)
      (now : Stamp) (tariff : Nat) (tar : Tariff) (hi : s.slot i = none)
      (hn : ∀ j u, s.slot j = some u → u.number ≠ number) (hg : ∀ x, g.has x = true → s.isBound x = false)
      (hp : s.supply.power = .active) (hs : s.shift = some sh) (ho : sh.state = .opened)
      (hc : s.store.state ≠ .commitWrite) :
      FareMove s (s.putSlot i (some (newTrip number g share sel now tariff tar)))
  /-- R114: a card fare back to STOPPED. -/
  | voids {s : State} {i : Fin 4} {u : Trip} {sh : Shift} (hu : s.slot i = some u) (hd : u.state = .settled)
      (hg : ∀ x, u.stations.has x = true → s.isBound x = false) (hp : s.supply.power = .active)
      (hs : s.shift = some sh) (ho : sh.state = .opened) : FareMove s (s.putSlot i (some u.voidPayment))
  /-- R51: a counted metre. -/
  | counts {s : State} (hw : s.dist.window < windowMax) :
      FareMove s ((forSlots metreOnSlot s).onDist (fun d => { d with window := d.window + 1 }))
  /-- R53: the global window emptied, with no metre left in a RUNNING fare's. -/
  | closes {s : State} {f : Distance → Distance} (hf : (f s.dist).window = 0) (he : WindowsEmpty s) :
      FareMove s (s.onDist f)
  /-- R173, R175: a new power state, which the fares fit. -/
  | powers {s : State} {f : Supply → Supply}
      (hs : (f s.supply).power = .standby → ∀ i t, s.slot i = some t → t.state.isActive = false)
      (hh : (f s.supply).power = .holdover → ∀ i t, s.slot i = some t → t.state ≠ .running) :
      FareMove s (s.onSupply f)
  /-- R155 to R160: the current shift replaced: with no slot occupied, with none or a CLOSING one before it, or by one
  that is not CLOSING, and OPEN unless no fare is active. -/
  | shifts {s : State} {sh' : Option Shift}
      (h : (∀ i, s.slot i = none) ∨ (∀ sh, s.shift = some sh → sh.state = .closing)
        ∨ ∃ sh, sh' = some sh ∧ sh.state ≠ .closing
            ∧ (sh.state = .opened ∨ ∀ i t, s.slot i = some t → t.state.isActive = false)) :
      FareMove s (s.putShift sh')
  /-- R88: a store write begun with every slot FREE. -/
  | stores {s : State} {f : Store → Store} (h : ∀ i, s.slot i = none) : FareMove s (s.onStore f)
  /-- R177: a start with every slot FREE and the global window empty. -/
  | restarts {s t : State} (h : ∀ i, t.slot i = none) (hw : t.dist.window = 0) : FareMove s t

/-- A chain of moves. -/
abbrev FareMoves : State → State → Prop := Relation.ReflTransGen FareMove

theorem FareMoves.keeps {s t : State} (h : KeepsFares s t) : FareMoves s t := .single (.keeps h)

theorem FareMoves.same {s t : State} (h : SameFares s t) : FareMoves s t := .keeps h.keeps

theorem FareMoves.of_move {s t : State} (h : FareMove s t) : FareMoves s t := .single h

/-- A change of the fares is a chain of moves also with what else the event changes. -/
theorem FareMoves.andSame {s t u : State} (h : FareMoves s t) (hu : SameFares t u) : FareMoves s u :=
  h.trans (FareMoves.same hu)

/-- A chain of moves made after changes that leave the fares. -/
theorem FareMoves.after {s t u : State} (h : FareMoves t u) (hs : SameFares s t) : FareMoves s u :=
  (FareMoves.same hs).trans h

/-- Two chains of moves, one after the other. -/
theorem FareMoves.andMoves {s t u : State} (h : FareMoves s t) (h' : FareMoves t u) : FareMoves s u := h.trans h'

/-- What every move keeps, every chain of moves keeps. -/
theorem FareMoves.preserves {P : State → Prop} (hP : ∀ s t, FareMove s t → P s → P t) {s t : State}
    (h : FareMoves s t) (hs : P s) : P t := by
  induction h with
  | refl => exact hs
  | tail _ hm ih => exact hP _ _ hm ih

/-! ### What the moves keep -/

/-- R51: a counted metre stands in the window of every RUNNING fare. -/
theorem forMetre_slot (s : State) (j : Fin 4) : (forSlots metreOnSlot s).slot j = (s.slot j).map (fun t =>
    if t.state = .running then { t with window := t.window + 1 } else t) := by
  fin_cases j <;> rfl

/-- R51: a counted metre changes nothing of a record but the window of a RUNNING fare. -/
theorem counts_slot {s : State} {f : Distance → Distance} {j : Fin 4} {v : Trip}
    (h : ((forSlots metreOnSlot s).onDist f).slot j = some v) :
    ∃ u, s.slot j = some u ∧ ((u.state = .running ∧ v = { u with window := u.window + 1 }) ∨ (u.state ≠ .running ∧ v = u)) := by
  have e : ((forSlots metreOnSlot s).onDist f).slot j = (forSlots metreOnSlot s).slot j := rfl
  rw [e, forMetre_slot, Option.map_eq_some_iff] at h
  obtain ⟨u, hu, rfl⟩ := h
  refine ⟨u, hu, ?_⟩
  by_cases hr : u.state = .running
  · exact .inl ⟨hr, if_pos hr⟩
  · exact .inr ⟨hr, if_neg hr⟩

/-- A property of each record, by itself, is kept where each record follows one that has it. -/
theorem Descends.forall {P Q : Trip → Prop} {s t : State} (h : Descends s t)
    (hq : ∀ u v, Trip.Heir s.supply.power u v → P u → Q v) (hs : ∀ i u, s.slot i = some u → P u) :
    ∀ j v, t.slot j = some v → Q v := by
  intro j v hv
  obtain ⟨i, u, hu, hh, -⟩ := h j v hv
  exact hq u v hh (hs i u hu)

/-- A property of each record is kept where one slot is given a record that has it. -/
theorem State.putSlot_forall {P : Trip → Prop} {s : State} {i : Fin 4} {v : Trip} (hv : P v)
    (hs : ∀ j u, s.slot j = some u → P u) : ∀ j u, (s.putSlot i (some v)).slot j = some u → P u := by
  intro j u hu
  rw [State.putSlot_slot] at hu
  split at hu
  · cases hu; exact hv
  · exact hs j u hu

/-- R2. -/
theorem FareMove.dueIsSum {s t : State} (h : FareMove s t) (hs : DueIsSum s) : DueIsSum t := by
  cases h with
  | keeps h => exact h.records.forall (fun u v hh hu => hh.due hu) hs
  | starts => exact State.putSlot_forall (P := fun t => t.totalDue = t.flagFall + t.stepTotal + t.extrasTotal) rfl hs
  | @voids i u _ hu =>
    have hd : u.totalDue = u.flagFall + u.stepTotal + u.extrasTotal := hs i u hu
    exact State.putSlot_forall (P := fun t => t.totalDue = t.flagFall + t.stepTotal + t.extrasTotal) hd hs
  | counts =>
    intro j v hv
    obtain ⟨u, hu, ⟨-, rfl⟩ | ⟨-, rfl⟩⟩ := counts_slot hv
    · exact hs j u hu
    · exact hs j v hu
  | closes | powers | shifts | stores => exact hs
  | restarts h => intro j v hv; rw [h j] at hv; cases hv

/-- R4. -/
theorem FareMove.tripNumbersDiffer {s t : State} (h : FareMove s t) (hs : TripNumbersDiffer s) : TripNumbersDiffer t := by
  cases h with
  | keeps h => exact h.records.tripNumbersDiffer hs
  | @starts i _ number _ _ _ _ _ _ hi hn =>
    intro a b v w hv hw hab
    rw [State.putSlot_slot] at hv hw
    split at hv <;> split at hw
    · rename_i e e'; exact absurd (e.trans e'.symm) hab
    · cases hv; exact (hn b w hw).symm
    · cases hw; exact hn a v hv
    · exact hs a b v w hv hw hab
  | @voids i u _ hu =>
    intro a b v w hv hw hab
    rw [State.putSlot_slot] at hv hw
    split at hv <;> split at hw
    · rename_i e e'; exact absurd (e.trans e'.symm) hab
    · rename_i e e'; cases hv; exact hs i b u w hu hw (Ne.symm e')
    · rename_i e e'; cases hw; exact hs a i v u hv hu e
    · exact hs a b v w hv hw hab
  | counts =>
    intro a b v w hv hw hab
    obtain ⟨u, hu, hu'⟩ := counts_slot hv
    obtain ⟨x, hx, hx'⟩ := counts_slot hw
    have hn := hs a b u x hu hx hab
    rcases hu' with ⟨-, rfl⟩ | ⟨-, rfl⟩ <;> rcases hx' with ⟨-, rfl⟩ | ⟨-, rfl⟩ <;> exact hn
  | closes | powers | shifts | stores => exact hs
  | restarts h => intro a b v w hv; rw [h a] at hv; cases hv

/-- A record put into slot `i` whose stations no fare binds leaves each station bound once. -/
theorem BoundOnce.putSlot {s : State} {i : Fin 4} {v : Trip} (hs : BoundOnce s)
    (hg : ∀ x, v.stations.has x = true → s.isBound x = false) : BoundOnce (s.putSlot i (some v)) := by
  have hv : ∀ x j, bindsStation x (some v) = true → bindsStation x (s.slot j) = false :=
    fun x j h => State.isBound_eq_false.1 (hg x (bindsStation_some.1 h).2) j
  intro x a b ha hb
  rw [State.putSlot_slot] at ha hb
  split at ha <;> split at hb
  · rename_i e e'; exact e.trans e'.symm
  · rw [hv x b ha] at hb; cases hb
  · rw [hv x a hb] at ha; cases ha
  · exact hs x a b ha hb

/-- R21: a record that binds a station follows, where trip numbers differ, one of its slot that does. -/
theorem Descends.binds {s t : State} (h : Descends s t) (hd : TripNumbersDiffer s) {x : Station} {j : Fin 4}
    (hb : bindsStation x (t.slot j) = true) : bindsStation x (s.slot j) = true := by
  obtain ⟨v, hv, ha, hx⟩ := bindsStation_iff.1 hb
  obtain ⟨u, hu, hh⟩ := h.slot hd hv
  exact bindsStation_iff.2 ⟨u, hu, hh.active ha, hh.stations ▸ hx⟩

/-- R21. -/
theorem FareMove.boundOnce {s t : State} (h : FareMove s t) (hd : TripNumbersDiffer s) (hs : BoundOnce s) :
    BoundOnce t := by
  cases h with
  | keeps h => exact fun x a b ha hb => hs x a b (h.records.binds hd ha) (h.records.binds hd hb)
  | starts _ _ _ _ _ _ _ hg => exact hs.putSlot hg
  | voids _ _ hg => exact hs.putSlot hg
  | counts =>
    have e : ∀ x j, bindsStation x ((forSlots metreOnSlot s).slot j) = bindsStation x (s.slot j) := by
      intro x j
      rw [forMetre_slot]
      cases s.slot j with
      | none => rfl
      | some u => simp only [Option.map_some, bindsStation]; split <;> rfl
    exact fun x a b ha hb => hs x a b (e x a ▸ ha) (e x b ▸ hb)
  | closes | powers | shifts | stores => exact hs
  | restarts h => intro x a b ha; rw [h a] at ha; cases ha

/-- R29: a window that fits the global window `w`. -/
def Trip.windowFits (w : Nat) (t : Trip) : Prop := if t.state = .running then t.window ≤ w else t.window = 0

theorem Trip.windowFits_running {w : Nat} {t : Trip} (h : t.state = .running) : t.windowFits w ↔ t.window ≤ w := by
  simp [Trip.windowFits, h]

theorem Trip.windowFits_other {w : Nat} {t : Trip} (h : t.state ≠ .running) : t.windowFits w ↔ t.window = 0 := by
  simp [Trip.windowFits, h]

/-- A window at 0 fits every global window. -/
theorem Trip.windowFits_of_zero {w : Nat} {t : Trip} (h : t.window = 0) : t.windowFits w := by
  by_cases hr : t.state = .running
  · exact (Trip.windowFits_running hr).2 (h ▸ Nat.zero_le w)
  · exact (Trip.windowFits_other hr).2 h

theorem Trip.Heir.windowFits {p : PowerState} {u v : Trip} (h : Trip.Heir p u v) {w : Nat} (hu : u.windowFits w) :
    v.windowFits w := by
  rcases h.window with hz | ⟨hw, hr⟩
  · exact Trip.windowFits_of_zero hz
  · by_cases hur : u.state = .running
    · rw [Trip.windowFits_running hur] at hu
      rw [Trip.windowFits_running (hr hur), hw]; exact hu
    · rw [Trip.windowFits_other hur] at hu
      exact Trip.windowFits_of_zero (hw.trans hu)

/-- R29. -/
theorem FareMove.windowsAgree {s t : State} (h : FareMove s t) (hs : WindowsAgree s) : WindowsAgree t := by
  obtain ⟨h90, hs⟩ := hs
  cases h with
  | keeps h =>
    exact ⟨h.window ▸ h90, h.records.forall (P := Trip.windowFits s.dist.window) (Q := Trip.windowFits t.dist.window)
      (fun u v hh hu => h.window ▸ hh.windowFits hu) hs⟩
  | starts => exact ⟨h90, State.putSlot_forall (P := Trip.windowFits s.dist.window) (Trip.windowFits_of_zero rfl) hs⟩
  | @voids i u _ hu hd =>
    have hz : u.window = 0 := (Trip.windowFits_other (by simp [hd])).1 (hs i u hu)
    exact ⟨h90, State.putSlot_forall (P := Trip.windowFits s.dist.window) (Trip.windowFits_of_zero hz) hs⟩
  | counts hw =>
    refine ⟨by simpa [forSlots, metreOnSlot, windowMax] using hw, fun j v hv => ?_⟩
    obtain ⟨u, hu, ⟨hr, rfl⟩ | ⟨hr, rfl⟩⟩ := counts_slot hv
    · have := (Trip.windowFits_running hr).1 (hs j u hu)
      simpa [hr, forSlots, metreOnSlot] using this
    · exact Trip.windowFits_of_zero ((Trip.windowFits_other hr).1 (hs j v hu))
  | closes hf he =>
    refine ⟨by simp [hf], fun j v hv => Trip.windowFits_of_zero ?_⟩
    by_cases hr : v.state = .running
    · exact he j v hv hr
    · exact (Trip.windowFits_other hr).1 (hs j v hv)
  | powers | shifts | stores => exact ⟨h90, hs⟩
  | restarts h hw => exact ⟨by simp [hw], fun j v hv => by rw [h j] at hv; cases hv⟩

/-- R6, R156, R158: a fare that fits the state of the current shift. -/
def Trip.shiftFits (o : Option ShiftState) (t : Trip) : Prop :=
  ∃ st, o = some st ∧ st ≠ .closing ∧ (t.state.isActive = true → st = .opened)

theorem faresUnderShift_iff {s : State} :
    FaresUnderShift s ↔ ∀ i t, s.slot i = some t → t.shiftFits (s.shift.map (·.state)) := by
  unfold FaresUnderShift Trip.shiftFits
  refine forall_congr' fun i => forall_congr' fun t => imp_congr_right fun _ => ?_
  cases s.shift <;> simp

/-- R6, R156, R158. -/
theorem FareMove.faresUnderShift {s t : State} (h : FareMove s t) (hs : FaresUnderShift s) : FaresUnderShift t := by
  rw [faresUnderShift_iff] at hs ⊢
  cases h with
  | keeps h =>
    rw [h.shift]
    refine h.records.forall ?_ hs
    rintro u v hh ⟨st, e, hc, ho⟩
    exact ⟨st, e, hc, fun ha => ho (hh.active ha)⟩
  | starts _ _ _ _ _ _ _ _ _ hs' ho => exact State.putSlot_forall ⟨.opened, by simp [hs', ho], by simp, fun _ => rfl⟩ hs
  | voids _ _ _ _ hs' ho => exact State.putSlot_forall ⟨.opened, by simp [hs', ho], by simp, fun _ => rfl⟩ hs
  | counts =>
    intro j v hv
    obtain ⟨u, hu, ⟨-, rfl⟩ | ⟨-, rfl⟩⟩ := counts_slot hv
    · exact hs j u hu
    · exact hs j v hu
  | closes | powers | stores => exact hs
  | shifts h =>
    intro j v hv
    obtain ⟨st, e, hc, ho⟩ := hs j v hv
    rcases h with h | h | ⟨sh, rfl, hc', ho'⟩
    · exact absurd ((h j).symm.trans hv) nofun
    · rw [Option.map_eq_some_iff] at e
      obtain ⟨sh, hsh, rfl⟩ := e
      exact absurd (h sh hsh) hc
    · refine ⟨sh.state, rfl, hc', fun ha => ho'.elim id fun hi => ?_⟩
      rw [hi j v hv] at ha; cases ha
  | restarts h => intro j v hv; rw [h j] at hv; cases hv

/-- R25, R173: a fare that fits a power state. -/
def Trip.powerFits (p : PowerState) (t : Trip) : Prop :=
  (p = .standby → t.state.isActive = false) ∧ (p = .holdover → t.state ≠ .running)

theorem Trip.powerFits_active (t : Trip) : t.powerFits .active := ⟨nofun, nofun⟩

theorem Trip.Heir.powerFits {p : PowerState} {u v : Trip} (h : Trip.Heir p u v) (hu : u.powerFits p) : v.powerFits p := by
  refine ⟨fun hp => ?_, fun hp hr => ?_⟩
  · have := hu.1 hp
    cases hv : v.state.isActive with
    | false => rfl
    | true => rw [h.active hv] at this; cases this
  · rcases h.running hr with hr | ha
    · exact hu.2 hp hr
    · rw [hp] at ha; cases ha

/-- R25, R173. -/
theorem FareMove.faresFitPower {s t : State} (h : FareMove s t) (hs : FaresFitPower s) : FaresFitPower t := by
  cases h with
  | keeps h =>
    exact h.records.forall (P := Trip.powerFits s.supply.power) (Q := Trip.powerFits t.supply.power)
      (fun u v hh hu => h.power ▸ hh.powerFits hu) hs
  | starts _ _ _ _ _ _ _ _ hp =>
    exact State.putSlot_forall (P := Trip.powerFits s.supply.power) (hp ▸ Trip.powerFits_active _) hs
  | voids _ _ _ hp => exact State.putSlot_forall (P := Trip.powerFits s.supply.power) (hp ▸ Trip.powerFits_active _) hs
  | counts =>
    intro j v hv
    obtain ⟨u, hu, ⟨-, rfl⟩ | ⟨-, rfl⟩⟩ := counts_slot hv
    · exact hs j u hu
    · exact hs j v hu
  | closes | shifts | stores => exact hs
  | powers hst hh => exact fun j v hv => ⟨fun hp => hst hp j v hv, fun hp => hh hp j v hv⟩
  | restarts h => intro j v hv; rw [h j] at hv; cases hv

theorem freeDuringCommit_iff {s : State} :
    FreeDuringCommit s ↔ ∀ i t, s.slot i = some t → s.store.state ≠ .commitWrite := by
  unfold FreeDuringCommit
  constructor
  · intro h i t ht hc
    rw [h hc i] at ht; cases ht
  · intro h hc i
    cases e : s.slot i with
    | none => rfl
    | some t => exact absurd hc (h i t e)

/-- R92. -/
theorem FareMove.freeDuringCommit {s t : State} (h : FareMove s t) (hs : FreeDuringCommit s) : FreeDuringCommit t := by
  rw [freeDuringCommit_iff] at hs ⊢
  cases h with
  | keeps h => exact h.records.forall (fun u v _ hu hc => hu (h.commit hc)) hs
  | starts _ _ _ _ _ _ _ _ _ _ _ hc => exact fun _ _ _ => hc
  | voids hu => exact fun _ _ _ => hs _ _ hu
  | counts =>
    intro j v hv
    obtain ⟨u, hu, -⟩ := counts_slot hv
    exact hs j u hu
  | closes | powers | shifts => exact hs
  | stores h => exact fun j v hv => absurd ((h j).symm.trans hv) nofun
  | restarts h => intro j v hv; rw [h j] at hv; cases hv

end Sys2Proof.Machine
end

section
/-! SUPPORT. The fare table's commands and the settlement unit's commands and messages as chains of moves of the fares. -/

namespace Sys2Proof.Machine

/-! ### Taking commands and messages -/

theorem State.followSign_same (s : State) : SameFares s s.followSign := by constructor <;> simp

/-- A command moves the fares as its body does, which it takes in ACTIVE alone. -/
theorem takeCommand_moves {args : Nat} {body : State → Reply × State} {s : State}
    (h : s.supply.power = .active → FareMoves s (body s).2) : FareMoves s (takeCommand args body s) := by
  rcases takeCommand_cases args body s with ⟨-, e⟩ | ⟨hs, e⟩ <;> rw [e]
  · exact .same ⟨rfl, rfl, rfl, rfl, id⟩
  · have hp : s.supply.power = .active := by simp [State.serves] at hs; exact hs.1
    refine (h hp).andSame (SameFares.trans ?_ (State.followSign_same _))
    exact ⟨rfl, rfl, rfl, rfl, id⟩

/-- A command whose body leaves the fares, and what their conditions read, leaves them. -/
theorem takeCommand_same {args : Nat} {body : State → Reply × State} {s : State} (h : SameFares s (body s).2) :
    FareMoves s (takeCommand args body s) := takeCommand_moves fun _ => .same h

/-- A message moves the fares as its body does, which it takes in ACTIVE alone. -/
theorem takeMessage_moves {body : State → State} {s : State} (h : s.supply.power = .active → FareMoves s (body s)) :
    FareMoves s (takeMessage body s) := by
  rcases takeMessage_cases body s with ⟨-, e⟩ | ⟨hp, e⟩ <;> rw [e]
  exact (h hp).andSame (State.followSign_same _)

/-- A command that names a slot moves the fares as it does on the record of that slot. -/
theorem withSlot_moves {length : Nat} {slot : Byte} {s : State} {f : Fin 4 → Trip → Reply × State}
    (h : ∀ i t, s.slot i = some t → FareMoves s (f i t).2) : FareMoves s (withSlot length slot s f).2 := by
  rcases withSlot_cases length slot s f with ⟨-, e⟩ | ⟨i, -, -, e⟩ | ⟨i, t, -, ht, e⟩ <;> rw [e]
  · exact .refl
  · exact .refl
  · exact h i t ht

theorem State.deny_same (x : Station) (kind : Byte) (r : Reason) (t : Option Trip) (s : State) :
    SameFares s (s.deny x kind r t) := by constructor <;> simp

/-- A message that names a fare moves the fares as it does on the record found. -/
theorem withFare_moves {x : Station} {kind : Byte} {n : Nat} {s : State} {f : Fin 4 → Trip → State}
    (h : ∀ i t, s.slot i = some t → FareMoves s (f i t)) : FareMoves s (withFare x kind n s f) := by
  rcases withFare_cases x kind n s f with e | ⟨i, t, -, -, -, e⟩ | ⟨i, t, ht, -, -, e⟩ <;> rw [e]
  · exact .same (State.deny_same ..)
  · exact .same (State.deny_same ..)
  · exact h i t ht

/-- A check that refuses leaves the state as it was; the command goes on where it passes. -/
theorem FareMoves.unlessRefused {c : Prop} [Decidable c] {length : Nat} {code : ResultCode} {s : State}
    {x : Reply × State} (h : ¬c → FareMoves s x.2) : FareMoves s (if c then refuse length code s else x).2 := by
  split
  · exact .refl
  · rename_i hc; exact h hc

/-- A check that a command passes to be carried out, and is refused otherwise. -/
theorem FareMoves.whenTaken {c : Prop} [Decidable c] {length : Nat} {code : ResultCode} {s : State}
    {x : Reply × State} (h : c → FareMoves s x.2) : FareMoves s (if c then x else refuse length code s).2 := by
  split
  · rename_i hc; exact h hc
  · exact .refl

/-- A check that denies a message leaves the fares as they were; the message goes on where it passes. -/
theorem FareMoves.unlessDenied {c : Prop} [Decidable c] {x : Station} {kind : Byte} {r : Reason} {o : Option Trip}
    {s u : State} (h : ¬c → FareMoves s u) : FareMoves s (if c then s.deny x kind r o else u) := by
  split
  · exact .same (State.deny_same ..)
  · rename_i hc; exact h hc

/-! ### The fare table's commands (chapter 1) -/

/-- R7, R8: an accepted START FARE is a new fare; the counts beside it leave the shift's state. -/
theorem State.startFare_same (i : Fin 4) (t : Trip) (s : State) :
    SameFares (s.putSlot i (some t)) (s.startFare i t) :=
  (State.credit_same (fun _ => by rfl) _).trans ⟨rfl, rfl, rfl, rfl, id⟩

theorem startFareUnder_moves {sh : Shift} {g : StationSet} {share : Bool} {sel : Selection} {s : State}
    (hp : s.supply.power = .active) (hs : s.shift = some sh) (ho : sh.state = .opened) (hb : s.store.busy = false) :
    FareMoves s (startFareUnder sh g share sel s).2 := by
  refine .unlessRefused fun _ => .unlessRefused fun _ => ?_
  split
  · exact .refl
  split
  · exact .refl
  rename_i i hi
  refine .unlessRefused fun hbound => .unlessRefused fun _ => ?_
  have hc : s.store.state ≠ .commitWrite := fun e => by simp [Store.busy, e] at hb
  have hfree : s.slot i = none := by simpa using List.find?_some hi
  exact (FareMoves.of_move (.starts share sel s.cal.time _ _ hfree (State.takenNumber_fresh s sh)
    (State.anyBound_eq_false.1 (by simpa using hbound)) hp hs ho hc)).andSame (State.startFare_same i _ s)

theorem startFareBody_moves {set share selection tariff : Byte} {s : State} (hp : s.supply.power = .active) :
    FareMoves s (startFareBody set share selection tariff s).2 := by
  unfold startFareBody
  split
  · unfold startFareWith
    split
    · exact .refl
    · rename_i sh hs
      exact .unlessRefused fun ho => .unlessRefused fun _ => .unlessRefused fun hb =>
        startFareUnder_moves hp hs (by simpa using ho) (by simpa using hb)
  · exact .refl

/-- R39: the settlement of a window keeps an active fare active. -/
theorem State.settleSlot_active {k : Nat} {i : Fin 4} {s : State} {t v : Trip} (ht : s.slot i = some t)
    (ha : t.state.isActive = true) (h : (s.settleSlot k i).slot i = some v) : v.state.isActive = true := by
  simp only [State.settleSlot, ht] at h
  split at h
  · obtain ⟨u, hu, hs, -⟩ := State.engine_slot i t (settleWindow (s.tariffOf t) k t) s
    rw [hu] at h; cases h
    rw [hs, (settleWindow_frame ..).1, ha]
  · rw [ht] at h; cases h; exact ha

theorem State.pauseFare_keeps {i : Fin 4} {s : State} {t : Trip} (ht : s.slot i = some t)
    (ha : t.state.isActive = true) : KeepsFares s (s.pauseFare i) :=
  (State.settleSlot_keeps s.runningCount i s).trans (.modSlot fun _ hu =>
    .of_halt nofun (fun _ => State.settleSlot_active ht ha hu) rfl rfl rfl (State.settleSlot_window hu) rfl rfl rfl rfl)

theorem State.announceStop_same (i : Fin 4) (s : State) : SameFares s (s.announceStop i) := by
  unfold State.announceStop
  split
  · exact ⟨rfl, rfl, rfl, rfl, id⟩
  · constructor <;> simp

theorem State.stopFare_keeps {i : Fin 4} {s : State} {t : Trip} (ht : s.slot i = some t)
    (ha : t.state.isActive = true) : KeepsFares s (s.stopFare i) := by
  refine KeepsFares.trans ?_ (State.announceStop_same i _).keeps
  exact (State.settleSlot_keeps s.runningCount i s).trans (.modSlot fun _ hu =>
    .of_halt nofun (fun _ => State.settleSlot_active ht ha hu) rfl rfl rfl (State.settleSlot_window hu) rfl rfl rfl rfl)

/-- R10, R13: a fare that runs again, in ACTIVE, after a state in which it was active. -/
theorem Trip.Heir.of_rerun {u v : Trip} (hu : u.state.isActive = true) (hr : u.state ≠ .running) (hn : v.number = u.number)
    (hx : v.stations = u.stations) (hw : v.window = u.window) (hd : v.totalDue = u.totalDue)
    (hf : v.flagFall = u.flagFall) (ht : v.stepTotal = u.stepTotal) (he : v.extrasTotal = u.extrasTotal) :
    Trip.Heir .active u v :=
  ⟨hn, hx, fun h => by rw [hd, hf, ht, he, h], fun _ => hu, fun _ => .inr rfl, .inr ⟨hw, fun h => absurd h hr⟩⟩

theorem State.catchUp_heir (p : PowerState) (s : State) (t : Trip) : Trip.Heir p t (s.catchUp t) := by
  unfold State.catchUp
  split
  · exact .refl p t
  · split
    · exact startSegment_heir ..
    · exact .refl p t

theorem State.repostDue_same (t : Trip) (s : State) : SameFares s (s.repostDue t) := by
  unfold State.repostDue
  split
  · constructor <;> simp
  · exact ⟨rfl, rfl, rfl, rfl, id⟩

/-- R2: a record whose extras total changed, its total due computed again. -/
theorem Trip.Heir.of_recompute {p : PowerState} {u v : Trip} (hs : v.state = u.state) (hn : v.number = u.number)
    (hx : v.stations = u.stations) (hw : v.window = u.window) : Trip.Heir p u v.recompute :=
  ⟨hn, hx, fun _ => rfl, fun h => hs ▸ h, fun h => .inl (hs ▸ h), .inr ⟨hw, fun h => hs ▸ h⟩⟩

theorem pauseFareBody_moves (slot : Byte) (s : State) : FareMoves s (pauseFareBody slot s).2 :=
  withSlot_moves fun _ _ ht => .whenTaken fun h => .keeps (State.pauseFare_keeps ht (by simp [h, FareState.isActive]))

theorem resumeFareBody_moves (slot : Byte) {s : State} (hp : s.supply.power = .active) :
    FareMoves s (resumeFareBody slot s).2 :=
  withSlot_moves fun _ _ ht => .whenTaken fun h => .keeps (.putSlot ht
    (hp ▸ .of_rerun (by simp [h, FareState.isActive]) (by simp [h]) rfl rfl rfl rfl rfl rfl rfl))

theorem stopFareBody_moves (slot : Byte) (s : State) : FareMoves s (stopFareBody slot s).2 :=
  withSlot_moves fun _ _ ht => .whenTaken fun h =>
    .keeps (State.stopFare_keeps ht (by rcases h with h | h <;> simp [h, FareState.isActive]))

theorem reopenFareBody_moves (slot : Byte) {s : State} (hp : s.supply.power = .active) :
    FareMoves s (reopenFareBody slot s).2 :=
  withSlot_moves fun i t ht => .unlessRefused fun _ => .unlessRefused fun h => by
    split
    · exact .refl
    · have h : t.state = .stopped := by simpa using h
      refine .keeps (.putSlot ht (hp ▸ Trip.Heir.trans ?_ (State.catchUp_heir ..)))
      exact .of_rerun (by simp [h, FareState.isActive]) (by simp [h]) rfl rfl rfl rfl rfl rfl rfl

theorem State.addExtra_keeps {i : Fin 4} {s : State} {u v : Trip} (hu : s.slot i = some u)
    (h : Trip.Heir s.supply.power u v) : KeepsFares s (s.addExtra i v) :=
  ((KeepsFares.putSlot hu h).trans (State.holdWarning_keeps i _)).trans (State.repostDue_same v _).keeps

theorem addExtraBody_moves (slot : Byte) (kind count : Nat) (s : State) :
    FareMoves s (addExtraBody slot kind count s).2 :=
  withSlot_moves fun _ _ ht => .unlessRefused fun _ => .unlessRefused fun _ => .unlessRefused fun _ =>
    .unlessRefused fun _ => .unlessRefused fun _ => .keeps (State.addExtra_keeps ht (.of_recompute rfl rfl rfl rfl))

theorem cancelExtraBody_moves (slot : Byte) (kind : Nat) (s : State) : FareMoves s (cancelExtraBody slot kind s).2 :=
  withSlot_moves fun _ _ ht => .unlessRefused fun _ => .unlessRefused fun _ => .unlessRefused fun _ =>
    .unlessRefused fun _ => by
      refine FareMoves.andSame ?_ (State.repostDue_same _ _)
      exact .keeps (.putSlot ht (.of_recompute rfl rfl rfl rfl))

theorem releaseTripBody_moves (slot : Byte) (trip : Nat) (s : State) : FareMoves s (releaseTripBody slot trip s).2 :=
  withSlot_moves fun i _ _ => .unlessRefused fun _ => .unlessRefused fun _ => .unlessRefused fun _ =>
    (FareMoves.keeps (.freeSlot s i)).andSame ⟨rfl, rfl, rfl, rfl, id⟩

/-! ### Settlement (chapter 6) -/

/-- R113: the credits of a settlement keep the shift's state. -/
theorem Shift.creditMoney_state (m : Method) (t : Trip) (tip : Nat) (sh : Shift) :
    (sh.creditMoney m t tip).state = sh.state := by
  unfold Shift.creditMoney
  split
  · cases m <;> rfl
  · rfl

theorem Shift.countSettlement_state (m : Method) (sh : Shift) : (sh.countSettlement m).state = sh.state := by
  cases m <;> rfl

theorem Shift.debitMoney_state (t : Trip) (tip : Nat) (sh : Shift) : (sh.debitMoney t tip).state = sh.state := by
  unfold Shift.debitMoney
  split <;> rfl

theorem State.postDue_same (t : Trip) (s : State) : SameFares s (s.postDue t) := by constructor <;> simp

theorem State.sendHold_same (a b : Trip) (s : State) : SameFares s (s.sendHold a b) := by constructor <;> simp

theorem State.settleByDriver_keeps {i : Fin 4} {t : Trip} {m : Method} {captured tip : Nat} {s : State}
    (ht : s.slot i = some t) (hs : t.state = .stopped) : KeepsFares s (s.settleByDriver i t m captured tip) := by
  have hp : KeepsFares s (s.putSlot i (some (t.settleByDriver m captured tip))) :=
    .putSlot ht (.of_halt nofun nofun rfl rfl rfl (by simp [hs]) rfl rfl rfl rfl)
  refine hp.trans (SameFares.keeps ?_)
  refine ((State.credit_same ?_ _).trans (State.sendHold_same _ _ _)).trans ⟨rfl, rfl, rfl, rfl, id⟩
  exact fun sh => (Shift.countSettlement_state m _).trans (Shift.creditMoney_state m t tip sh)

theorem State.settleByCard_keeps {x : Station} {i : Fin 4} {t : Trip} {reference captured tip : Nat} {s : State}
    (ht : s.slot i = some t) (hs : t.state = .settling) :
    KeepsFares s (s.settleByCard x i t reference captured tip) := by
  have hp : KeepsFares s (s.putSlot i (some (t.settleCard reference captured tip))) :=
    .putSlot ht (.of_halt nofun nofun rfl rfl rfl (by simp [hs]) rfl rfl rfl rfl)
  refine hp.trans (SameFares.keeps ?_)
  refine (State.credit_same ?_ _).trans ⟨rfl, rfl, rfl, rfl, id⟩
  exact fun sh => (Shift.countSettlement_state .card _).trans (Shift.creditMoney_state .card t tip sh)

/-- R108, R111, R112: a fare returned from SETTLING to STOPPED. -/
theorem endPayment_keeps {i : Fin 4} {t : Trip} (a : Attempt) (declines : Nat) {s : State}
    (ht : s.slot i = some t) (hs : t.state = .settling) :
    KeepsFares s (s.putSlot i (some (t.endPayment a declines))) :=
  .putSlot ht (.of_halt nofun (by simp [hs, FareState.isActive]) rfl rfl rfl (by simp [hs]) rfl rfl rfl rfl)

theorem recordCashBody_moves (slot : Byte) (tip : Nat) (s : State) : FareMoves s (recordCashBody slot tip s).2 :=
  withSlot_moves fun _ _ ht => .unlessRefused fun _ => .unlessRefused fun _ => .unlessRefused fun hs =>
    (FareMoves.keeps (State.settleByDriver_keeps ht (by simpa using hs))).andSame ⟨rfl, rfl, rfl, rfl, id⟩

theorem declareUnpaidBody_moves (slot : Byte) (s : State) : FareMoves s (declareUnpaidBody slot s).2 :=
  withSlot_moves fun _ _ ht => .unlessRefused fun _ => .unlessRefused fun hs =>
    .keeps (State.settleByDriver_keeps ht (by simpa using hs))

theorem State.accept_same (x : Station) (kind : Byte) (t : Trip) (s : State) : SameFares s (s.accept x kind t) :=
  ⟨rfl, rfl, rfl, rfl, id⟩

theorem placeHold_heir (p : PowerState) (h : Hold) (t : Trip) : Trip.Heir p t (t.placeHold h) :=
  .of_eq rfl rfl rfl rfl rfl rfl rfl rfl

theorem beginPayment_heir (p : PowerState) (timeout : Nat) {t : Trip} (hs : t.state = .stopped) :
    Trip.Heir p t (t.beginPayment timeout) :=
  .of_halt nofun (fun _ => by simp [hs, FareState.isActive]) rfl rfl rfl (by simp [hs]) rfl rfl rfl rfl

theorem holdPlacedBody_moves (x : Station) (trip reference amount : Nat) (s : State) :
    FareMoves s (holdPlacedBody x trip reference amount s) := by
  refine .unlessDenied fun _ => withFare_moves fun i t ht => ?_
  unfold holdPlacedOn
  split
  · split
    · exact .same (State.accept_same ..)
    · exact .same (State.deny_same ..)
  · refine .unlessDenied fun _ => .unlessDenied fun _ => .keeps ?_
    refine KeepsFares.trans ?_ (State.holdWarning_keeps i _)
    exact (KeepsFares.putSlot ht (placeHold_heir _ _ t)).trans (SameFares.keeps ⟨rfl, rfl, rfl, rfl, id⟩)

theorem releaseHold_heir (p : PowerState) (t : Trip) : Trip.Heir p t t.releaseHold := by
  unfold Trip.releaseHold
  split
  · exact withHold_heir ..
  · exact .refl p t

/-- R106: the record with its hold RELEASED follows that of the slot where trip numbers differ, and a record in any case. -/
theorem State.putReleased_keeps {i : Fin 4} {t : Trip} {s : State} (ht : t ∈ s.trips)
    (hi : s.findTrip t.number = some i) : KeepsFares s (s.putSlot i (some t.releaseHold)) where
  records j w hw := by
    rw [State.putSlot_slot] at hw
    split at hw
    · rename_i e; cases hw
      obtain ⟨a, ha⟩ := (State.mem_trips s t).1 ht
      refine ⟨a, t, ha, releaseHold_heir _ t, fun hd => ?_⟩
      rw [State.findTrip_eq hd ha (State.findTrip_some hi).1] at hi
      cases hi; exact e.symm
    · exact ⟨j, w, hw, .refl _ w, fun _ => rfl⟩
  window := rfl
  power := rfl
  shift := rfl
  commit := id

theorem State.acceptRelease_same (x : Station) (t : Trip) (s : State) : SameFares s (s.acceptRelease x t) := by
  unfold State.acceptRelease
  split <;> exact ⟨rfl, rfl, rfl, rfl, id⟩

theorem holdReleasedBody_moves (x : Station) (reference : Nat) (s : State) :
    FareMoves s (holdReleasedBody x reference s) := by
  refine .unlessDenied fun _ => ?_
  split
  · exact .same (State.deny_same ..)
  rename_i t ht
  split
  · exact .same (State.deny_same ..)
  · rename_i i hi
    have hm : t ∈ s.trips := (List.mem_filter.1 (lowestTrip_some ht).1).1
    refine (FareMoves.keeps (State.putReleased_keeps hm hi)).andSame (SameFares.trans ?_ (State.acceptRelease_same x t _))
    exact ⟨rfl, rfl, rfl, rfl, id⟩

theorem payBegin_moves (x : Station) (trip : Nat) (s : State) :
    FareMoves s (withFare x kindPayBegin trip s (fun i t => payBeginOn x i t s)) :=
  withFare_moves fun _ _ ht => .unlessDenied fun hs => .unlessDenied fun _ =>
    (FareMoves.keeps (.putSlot ht (beginPayment_heir _ _ (by simpa using hs)))).andSame ⟨rfl, rfl, rfl, rfl, id⟩

theorem payResultBody_moves (x : Station) (trip : Nat) (outcome : Byte) (captured tip reference : Nat) (s : State) :
    FareMoves s (payResultBody x trip outcome captured tip reference s) := by
  unfold payResultBody
  split
  · exact .same (State.deny_same ..)
  refine .unlessDenied fun _ => withFare_moves fun i t ht => ?_
  unfold payResultOn
  split
  · split
    · exact .same (State.accept_same ..)
    · exact .same (State.deny_same ..)
  refine .unlessDenied fun hs => ?_
  have hs : t.state = .settling := by simpa using hs
  split
  · exact .unlessDenied fun _ => .unlessDenied fun _ => .keeps (State.settleByCard_keeps ht hs)
  · refine (FareMoves.keeps (endPayment_keeps .declined 1 ht hs)).andSame
      (SameFares.trans ?_ (State.postDue_same t _))
    exact (State.credit_same (fun _ => by rfl) _).trans ⟨rfl, rfl, rfl, rfl, id⟩
  · refine (FareMoves.keeps (endPayment_keeps .cancelled 0 ht hs)).andSame
      (SameFares.trans ?_ (State.postDue_same t _))
    exact ⟨rfl, rfl, rfl, rfl, id⟩

theorem payVoidBody_moves (x : Station) (trip reference : Nat) {s : State} (hp : s.supply.power = .active) :
    FareMoves s (payVoidBody x trip reference s) := by
  refine .unlessDenied fun _ => withFare_moves fun i t ht => .unlessDenied fun h1 => .unlessDenied fun _ =>
    .unlessDenied fun hb => .unlessDenied fun _ => ?_
  obtain ⟨hc, ho⟩ : t.isCardSettled = true ∧ s.shiftIsOpen = true := by simpa using h1
  have hd : t.state = .settled := by simp [Trip.isCardSettled] at hc; exact hc.1
  obtain ⟨sh, hs, ho⟩ : ∃ sh, s.shift = some sh ∧ sh.state = .opened := by
    simpa [State.shiftIsOpen, Option.any_eq_true] using ho
  refine (FareMoves.of_move (.voids ht hd (State.anyBound_eq_false.1 (by simpa using hb)) hp hs ho)).andSame ?_
  refine SameFares.trans ?_ (State.postDue_same t _)
  exact (State.credit_same (fun sh => by exact Shift.debitMoney_state t t.paymentOrNew.tip sh) _).trans ⟨rfl, rfl, rfl, rfl, id⟩

theorem State.paymentExpires_keeps {i : Fin 4} {t : Trip} {s : State} (ht : s.slot i = some t)
    (hs : t.state = .settling) : KeepsFares s (s.paymentExpires i t) := by
  refine (endPayment_keeps .timedOut 0 ht hs).trans (SameFares.keeps (SameFares.trans ?_ (State.postDue_same t _)))
  exact ⟨rfl, rfl, rfl, rfl, id⟩

end Sys2Proof.Machine
end

section
/-! SUPPORT. The shift unit, the calendar, the distance unit, the store, the supply unit and the second rollover as chains
of moves of the fares. -/

namespace Sys2Proof.Machine

/-! ### The shift unit's commands (chapter 9) and COMMIT -/

theorem shiftOpenBody_moves (driver : Nat) (s : State) : FareMoves s (shiftOpenBody driver s).2 := by
  refine .unlessRefused fun _ => .unlessRefused fun hs => .unlessRefused fun _ => .unlessRefused fun _ => ?_
  have hn : s.shift = none := by simpa using hs
  have hm : FareMove (s.count countOpening) (s.openShift driver) :=
    .shifts (.inr (.inl fun sh h => absurd (hn.symm.trans h) nofun))
  exact (FareMoves.of_move hm).after ⟨rfl, rfl, rfl, rfl, id⟩

theorem shiftBreakBody_moves (s : State) : FareMoves s (shiftBreakBody s).2 := by
  unfold shiftBreakBody
  split
  · exact .refl
  · rename_i sh hs
    refine .unlessRefused fun _ => .unlessRefused fun ha => ?_
    have ha : s.anyActive = false := by simpa using ha
    refine .of_move (.shifts (.inr (.inr ⟨{ sh with state := .onBreak }, by simp [hs], nofun, .inr ?_⟩)))
    exact State.anyActive_eq_false.1 ha

theorem shiftResumeBody_moves (s : State) : FareMoves s (shiftResumeBody s).2 := by
  unfold shiftResumeBody
  split
  · exact .refl
  · rename_i sh hs
    refine .unlessRefused fun _ => ?_
    exact .of_move (.shifts (.inr (.inr ⟨{ sh with state := .opened }, by simp [hs], nofun, .inl rfl⟩)))

theorem shiftCloseBody_moves (s : State) : FareMoves s (shiftCloseBody s).2 := by
  unfold shiftCloseBody
  split
  · exact .refl
  · refine .unlessRefused fun _ => .unlessRefused fun _ => .unlessRefused fun _ => .unlessRefused fun ho => ?_
    have ho := State.anyOccupied_eq_false.1 (by simpa using ho)
    exact (FareMoves.of_move (.shifts (.inl ho))).andSame ⟨rfl, rfl, rfl, rfl, nofun⟩

theorem State.closeShift_moves (s : State) : FareMoves s s.closeShift := by
  unfold State.closeShift
  split
  · exact .refl
  · rename_i sh hs
    split
    · rename_i hc
      let u := s.putPrev (some { sh with closeStamp := some s.cal.time })
      have h : ∀ b, u.shift = some b → b.state = .closing := fun b hb => by
        cases hs.symm.trans hb; exact hc
      have hm : FareMoves u (u.putShift none) := .of_move (.shifts (.inr (.inl h)))
      exact (hm.after (s := s) ⟨rfl, rfl, rfl, rfl, id⟩).andSame ((State.raise_same _ _).trans (State.followSign_same _))
    · exact .refl

theorem commitBody_moves (s : State) : FareMoves s (commitBody s).2 := by
  refine .unlessRefused fun _ => .unlessRefused fun _ => .unlessRefused fun _ => .unlessRefused fun _ =>
    .unlessRefused fun ho => ?_
  split
  · exact .refl
  · exact .of_move (.stores (State.anyOccupied_eq_false.1 (by simpa using ho)))

/-! ### Calendar, distance and store events -/

theorem setClockBody_moves (now : Stamp) (s : State) : FareMoves s (setClockBody now s).2 :=
  .unlessRefused fun _ => .unlessRefused fun _ => .unlessRefused fun _ => by
    exact .keeps ((State.evaluate_keeps _).after ⟨rfl, rfl, rfl, rfl, id⟩)

theorem adjustClockBody_moves (request : Int) (s : State) : FareMoves s (adjustClockBody request s).2 := by
  unfold adjustClockBody
  split
  · exact .refl
  · refine .unlessRefused fun _ => .unlessRefused fun _ => .unlessRefused fun _ => .keeps ?_
    refine (State.evaluate_keeps _).after (SameFares.trans ?_ (State.credit_same (fun _ => by rfl) _))
    exact ⟨rfl, rfl, rfl, rfl, id⟩

theorem State.commitSucceeds_moves (w : StoreWrite) (s : State) : FareMoves s (s.commitSucceeds w) := by
  exact .keeps ((State.evaluate_keeps _).after ⟨rfl, rfl, rfl, rfl, nofun⟩)

theorem State.metre_moves (s : State) : FareMoves s s.metre := by
  unfold State.metre
  split
  · rename_i hw
    refine (FareMoves.of_move (.counts hw)).andSame (SameFares.trans ?_ (State.credit_same (fun _ => by rfl) _))
    exact ⟨rfl, rfl, rfl, rfl, id⟩
  · exact .same ⟨rfl, rfl, rfl, rfl, id⟩

theorem State.edge_moves (k : Nat) (s : State) : FareMoves s (s.edge k) := by
  unfold State.edge
  split
  · exact (State.metre_moves _).after ⟨rfl, rfl, rfl, rfl, id⟩
  · exact .same ⟨rfl, rfl, rfl, rfl, id⟩

theorem markFault_keeps (i : Fin 4) (s : State) : KeepsFares s (markFault i s) :=
  .modSlot fun u _ => by
    split
    · exact .of_eq rfl rfl rfl rfl rfl rfl rfl rfl
    · exact .refl _ u

theorem State.sampleSensor_moves (high : Bool) (s : State) : FareMoves s (s.sampleSensor high) := by
  unfold State.sampleSensor
  split
  · split
    · refine (FareMoves.keeps (KeepsFares.forSlots markFault_keeps s)).andSame ?_
      refine SameFares.trans (SameFares.trans ?_ (State.credit_same (fun _ => by rfl) _)) (State.raise_same _ _)
      exact ⟨rfl, rfl, rfl, rfl, id⟩
    · exact .same ⟨rfl, rfl, rfl, rfl, id⟩
  · exact .same ⟨rfl, rfl, rfl, rfl, id⟩
  · split
    · exact .same ⟨rfl, rfl, rfl, rfl, id⟩
    · exact .same ⟨rfl, rfl, rfl, rfl, id⟩
  · exact .same ⟨rfl, rfl, rfl, rfl, id⟩

theorem Store.sampleSwitch_state (high : Bool) (t : Store) : (t.sampleSwitch high).state = t.state := by
  unfold Store.sampleSwitch
  repeat' split
  all_goals rfl

theorem State.sampleSwitch_same (high : Bool) (s : State) : SameFares s (s.sampleSwitch high) := by
  have h : (s.store.sampleSwitch high).state = .commitWrite → s.store.state = .commitWrite := by
    rw [Store.sampleSwitch_state]; exact id
  unfold State.sampleSwitch
  split
  · exact ⟨rfl, rfl, rfl, rfl, h⟩
  · exact ⟨rfl, rfl, rfl, rfl, h⟩

theorem State.sampleLamps_same (w : Lamps Bool) (s : State) : SameFares s (s.sampleLamps w) where
  slots := by simp
  window := by simp
  power := by simp
  shift := by simp [State.sampleLamps, Function.comp_def]
  commit := by simp

/-! ### The supply unit (chapter 10) -/

theorem State.enterStandby_moves {s : State} (h : s.anyActive = false) : FareMoves s s.enterStandby := by
  have hm : FareMove s (s.onSupply Supply.sleep) := .powers (fun _ => State.anyActive_eq_false.1 h) nofun
  refine (FareMoves.of_move hm).andSame (SameFares.trans ?_ (State.followSign_same _))
  exact ⟨rfl, rfl, rfl, rfl, id⟩

theorem State.wake_moves (s : State) : FareMoves s s.wake := by
  have hm : FareMove s (s.onSupply (fun u => { u with power := .active, offTimer := 0 })) := .powers nofun nofun
  refine (FareMoves.of_move hm).andSame ?_
  constructor <;> simp [State.wake]

theorem State.wakeIfStandby_moves (s : State) : FareMoves s s.wakeIfStandby := by
  unfold State.wakeIfStandby
  split
  · exact s.wake_moves
  · exact .refl

theorem Supply.sampleIgnition_power (high : Bool) (u : Supply) : (u.sampleIgnition high).power = u.power := by
  unfold Supply.sampleIgnition
  repeat' split
  all_goals rfl

theorem State.sampleIgnition_moves (high : Bool) (s : State) : FareMoves s (s.sampleIgnition high) := by
  have h : SameFares s (s.onSupply (·.sampleIgnition high)) :=
    ⟨rfl, rfl, Supply.sampleIgnition_power high s.supply, rfl, id⟩
  unfold State.sampleIgnition
  split
  · exact (FareMoves.same h).trans (State.wakeIfStandby_moves _)
  · exact .same h

theorem State.countIgnitionOff_moves (s : State) : FareMoves s s.countIgnitionOff := by
  unfold State.countIgnitionOff
  have h : SameFares s (s.onSupply (fun u => { u with offTimer := nextOffTimer s.anyActive u.offTimer })) :=
    ⟨rfl, rfl, rfl, rfl, id⟩
  dsimp only
  split
  · rename_i hd
    refine (FareMoves.same h).trans (State.enterStandby_moves ?_)
    simp [State.standbyIsDue] at hd
    exact hd.1.1
  · exact .same h

theorem State.ignitionTick_moves (s : State) : FareMoves s s.ignitionTick := by
  unfold State.ignitionTick
  split
  · exact s.countIgnitionOff_moves
  · exact .refl

theorem State.honourStandby_moves (s : State) : FareMoves s s.honourStandby := by
  unfold State.honourStandby
  split
  · split
    · rename_i h; exact State.enterStandby_moves h.2
    · exact .same ⟨rfl, rfl, rfl, rfl, id⟩
  · exact .refl

theorem State.raiseAlert_moves (w : Lamps Bool) (s : State) : FareMoves s (s.raiseAlert w) := by
  have h1 : SameFares s (s.endPeriodEarly w) := by
    unfold State.endPeriodEarly
    split
    · exact State.sampleLamps_same w s
    · exact ⟨rfl, rfl, rfl, rfl, id⟩
  have h2 : ∀ u : State, SameFares u u.latchAlert := fun u => by
    refine SameFares.trans ?_ (State.credit_same (fun _ => by rfl) _)
    exact ⟨rfl, rfl, rfl, rfl, id⟩
  exact ((State.wakeIfStandby_moves _).after (h1.trans (h2 _))).andSame (State.followSign_same _)

theorem State.sampleAlert_moves (pressed : Bool) (w : Lamps Bool) (s : State) : FareMoves s (s.sampleAlert pressed w) := by
  unfold State.sampleAlert
  have h : SameFares s (s.onSign (fun g => { g with tracker := (trackAlert g.tracker pressed).1 })) :=
    ⟨rfl, rfl, rfl, rfl, id⟩
  dsimp only
  split
  · exact (FareMoves.same h).trans (State.raiseAlert_moves w _)
  · exact .same h

/-- R175: a supply loss settles and pauses, then leaves the power, then empties the global window. -/
theorem State.loseSupply_moves (s : State) : FareMoves s s.loseSupply := by
  have hr := s.pauseAll_not_running
  let a := (s.pauseAll.onStore Store.interrupt).onDash DashLink.lose
  let b := (a.onSupply Supply.lose).onLink PartitionLink.emptied
  have ha : FareMoves s a := (FareMoves.keeps s.pauseAll_keeps).andSame ⟨rfl, rfl, rfl, rfl, nofun⟩
  have hs : FareMove a (a.onSupply Supply.lose) := .powers (fun h => nomatch h) (fun _ => hr)
  have hb : FareMoves a b := (FareMoves.of_move hs).andSame ⟨rfl, rfl, rfl, rfl, id⟩
  have hc : FareMoves b (b.onDist Distance.lose) := .of_move (.closes rfl fun j v hv h => absurd h (hr j v hv))
  refine ((ha.andMoves hb).andMoves hc).andSame (SameFares.trans ?_ (State.followSign_same _))
  exact ⟨rfl, rfl, rfl, rfl, id⟩

theorem State.resolveMarker_same (s : State) : SameFares s s.resolveMarker := by
  unfold State.resolveMarker
  split
  · exact ⟨rfl, rfl, rfl, rfl, id⟩
  · exact ⟨rfl, rfl, rfl, rfl, id⟩
  · exact ⟨rfl, rfl, rfl, rfl, nofun⟩

theorem Distance.return_window (valid : Bool) (img : Image) (d : Distance) : (d.return valid img).window = d.window := by
  cases valid <;> rfl

theorem State.returnStores_keeps (s : State) : KeepsFares s s.returnStores := by
  refine (State.evaluate_keeps _).after ?_
  exact ⟨by simp, by simp [Distance.return_window], by simp, by simp, (State.resolveMarker_same _).commit⟩

theorem State.returnBlocks_same (s : State) : SameFares s s.returnBlocks where
  slots := by simp [State.returnBlocks]
  window := by simp [State.returnBlocks]
  power := by simp [State.returnBlocks]
  shift := by simp [State.returnBlocks]
  commit := by simp [State.returnBlocks, Store.returned, Store.clearStaging]

theorem State.returnPower_moves (s : State) : FareMoves s s.returnPower := by
  have hm : FareMove s (s.onSupply (fun u => { u with power := .active, ignitionRun := 0, lastCold := false })) :=
    .powers nofun nofun
  exact (FareMoves.of_move hm).andSame (SameFares.trans (State.followSign_same _) ⟨rfl, rfl, rfl, rfl, id⟩)

theorem State.coldStart_moves (s : State) : FareMoves s s.coldStart := by
  refine .of_move (.restarts (fun i => ?_) ?_)
  · have h : s.coldStart.slots = ⟨none, none, none, none⟩ := by simp [State.coldStart]
    rw [State.slot, h]
    fin_cases i <;> rfl
  · simp [State.coldStart, coldDistanceFrom, coldDistance]

/-! ### The second rollover -/

theorem State.inActive_moves {f : State → State} {s : State} (h : FareMoves s (f s)) : FareMoves s (s.inActive f) := by
  unfold State.inActive
  split
  · exact h
  · exact .refl

theorem State.outsideHoldover_moves {f : State → State} {s : State} (h : FareMoves s (f s)) :
    FareMoves s (s.outsideHoldover f) := by
  unfold State.outsideHoldover
  split
  · exact .refl
  · exact h

/-- R53: the close of a second, with no metre left in a RUNNING fare's window. -/
theorem State.closeSecond_moves {s : State} (h : WindowsEmpty s) : FareMoves s s.closeSecond := by
  unfold State.closeSecond
  split
  · have he : ∀ f, WindowsEmpty ((s.credit f).raise .overspeed) := fun _ => h
    refine (FareMoves.of_move (.closes rfl (he _))).after (SameFares.trans ?_ (State.raise_same _ _))
    exact State.credit_same (fun _ => by rfl) _
  · exact .of_move (.closes rfl h)

theorem State.callTick_same (x : Station) (s : State) : SameFares s (s.callTick x) where
  slots := by simp
  window := by simp
  power := by simp
  shift := by rw [(State.callTick_eq x s).2.1]; split <;> simp [Function.comp_def]
  commit := by simp

theorem State.intercomTick_same (s : State) : SameFares s s.intercomTick := by
  refine ((State.callTick_same .left s).trans (State.callTick_same .right _)).trans ?_
  exact ⟨rfl, rfl, rfl, rfl, id⟩

theorem State.breakTick_same (s : State) : SameFares s s.breakTick :=
  State.credit_same (fun sh => by unfold Shift.breakSecond; split <;> rfl) s

theorem State.minuteTick_keeps (s : State) : KeepsFares s s.minuteTick := by
  unfold State.minuteTick
  split
  · exact s.evaluate_keeps
  · exact .refl s

theorem secondRollover_moves (s : State) : ∃ t, execSecondRollover s = .next t ∧ FareMoves s t := by
  have h1 : FareMoves s s.tickCalendar.fareSecond :=
    .keeps ((State.fareSecond_keeps _).after ⟨rfl, rfl, rfl, rfl, id⟩)
  have h2 := h1.andMoves (State.closeSecond_moves (State.fareSecond_windowsEmpty _))
  have h3 := h2.andMoves (State.inActive_moves (.keeps (State.fareTimers_keeps _)))
  have h4 := h3.andMoves (State.inActive_moves (.same (State.intercomTick_same _)))
  have h5 := h4.andMoves (State.outsideHoldover_moves (.same (State.breakTick_same _)))
  have h6 := h5.andMoves (State.ignitionTick_moves _)
  have h7 := h6.andMoves (State.outsideHoldover_moves (.keeps (State.minuteTick_keeps _)))
  exact ⟨_, rfl, h7.andSame (State.followSign_same _)⟩

end Sys2Proof.Machine
end

section
/-! PROOFS. Each command and each step is a chain of moves of the fares; with that, the invariants of the fare table (O6,
O7). -/

namespace Sys2Proof.Machine

/-! ### Every command and every step -/

theorem State.callExpires_same (x : Station) (s : State) : SameFares s (s.callExpires x) := by
  refine SameFares.trans ?_ (State.raise_same _ _)
  exact SameFares.trans (t := s.onIc _) ⟨rfl, rfl, rfl, rfl, id⟩ (State.credit_same (fun _ => by rfl) _)

theorem State.putFrame_same (f : FrameState) (s : State) : SameFares s (s.putFrame f) := ⟨rfl, rfl, rfl, rfl, id⟩

theorem okSign_same {s u : State} (h : SameFares s u) : SameFares s (okSign u).2 := h.trans (State.followSign_same u)

theorem State.takeUnlisted_moves (code : Byte) (s : State) : FareMoves s (s.takeUnlisted code) := by
  unfold State.takeUnlisted
  split
  · exact .same ⟨rfl, rfl, rfl, rfl, id⟩
  · exact takeCommand_same ⟨rfl, rfl, rfl, rfl, id⟩

theorem State.readNotice_same (part : ReadPart) (s : State) : SameFares s (s.readNotice part) := by
  cases part <;> constructor <;> simp [State.readNotice]

theorem State.sampleButton_same (x : Station) (pressed : Bool) (s : State) : SameFares s (s.sampleButton x pressed) := by
  constructor <;> simp [State.sampleButton]

/-- Each command is a chain of moves of the fares. -/
theorem exec_moves (c : Instr) (s : State) : ∃ t, exec c s = .next t ∧ FareMoves s t := by
  cases c with
  | startFare set share selection tariff => exact ⟨_, rfl, takeCommand_moves startFareBody_moves⟩
  | pauseFare slot => exact ⟨_, rfl, takeCommand_moves fun _ => pauseFareBody_moves slot s⟩
  | resumeFare slot => exact ⟨_, rfl, takeCommand_moves (resumeFareBody_moves slot)⟩
  | stopFare slot => exact ⟨_, rfl, takeCommand_moves fun _ => stopFareBody_moves slot s⟩
  | reopenFare slot => exact ⟨_, rfl, takeCommand_moves (reopenFareBody_moves slot)⟩
  | addExtra slot kind count => exact ⟨_, rfl, takeCommand_moves fun _ => addExtraBody_moves slot _ _ s⟩
  | cancelExtra slot kind => exact ⟨_, rfl, takeCommand_moves fun _ => cancelExtraBody_moves slot _ s⟩
  | releaseTrip slot trip => exact ⟨_, rfl, takeCommand_moves fun _ => releaseTripBody_moves slot _ s⟩
  | recordCash slot tip => exact ⟨_, rfl, takeCommand_moves fun _ => recordCashBody_moves slot _ s⟩
  | declareUnpaid slot => exact ⟨_, rfl, takeCommand_moves fun _ => declareUnpaidBody_moves slot s⟩
  | setClock => exact ⟨_, rfl, takeCommand_moves fun _ => setClockBody_moves _ s⟩
  | adjustClock => exact ⟨_, rfl, takeCommand_moves fun _ => adjustClockBody_moves _ s⟩
  | commit => exact ⟨_, rfl, takeCommand_moves fun _ => commitBody_moves s⟩
  | shiftOpen => exact ⟨_, rfl, takeCommand_moves fun _ => shiftOpenBody_moves _ s⟩
  | shiftBreak => exact ⟨_, rfl, takeCommand_moves fun _ => shiftBreakBody_moves s⟩
  | shiftResume => exact ⟨_, rfl, takeCommand_moves fun _ => shiftResumeBody_moves s⟩
  | shiftClose => exact ⟨_, rfl, takeCommand_moves fun _ => shiftCloseBody_moves s⟩
  | holdPlaced x => exact ⟨_, rfl, takeMessage_moves fun _ => holdPlacedBody_moves x _ _ _ s⟩
  | holdReleased x => exact ⟨_, rfl, takeMessage_moves fun _ => holdReleasedBody_moves x _ s⟩
  | payBegin x => exact ⟨_, rfl, takeMessage_moves fun _ => payBegin_moves x _ s⟩
  | payResult x => exact ⟨_, rfl, takeMessage_moves fun _ => payResultBody_moves x _ _ _ _ _ s⟩
  | payVoid x => exact ⟨_, rfl, takeMessage_moves (payVoidBody_moves x _ _)⟩
  | secondRollover => exact secondRollover_moves s
  | dsensSample high =>
    refine ⟨_, rfl, ?_⟩
    split
    · exact .refl
    · exact s.sampleSensor_moves high
  | acceptedEdge edge =>
    refine ⟨_, rfl, ?_⟩
    split
    · exact s.edge_moves _
    · exact .refl
  | paymentTimerExpiry i =>
    refine ⟨_, rfl, ?_⟩
    split
    · exact .refl
    · rename_i t ht
      split
      · rename_i h
        exact (FareMoves.keeps (State.paymentExpires_keeps ht h.2.1)).andSame (State.followSign_same _)
      · exact .refl
  | ignitionOffTimerExpiry =>
    refine ⟨_, rfl, ?_⟩
    split
    · exact s.countIgnitionOff_moves
    · exact .refl
  | alswSample pressed w =>
    refine ⟨_, rfl, ?_⟩
    split
    · exact .refl
    · exact s.sampleAlert_moves pressed w
  | ignSample high =>
    refine ⟨_, rfl, ?_⟩
    split
    · exact .refl
    · exact s.sampleIgnition_moves high
  | supplyLoss =>
    refine ⟨_, rfl, ?_⟩
    split
    · exact .refl
    · exact s.loseSupply_moves
  | supplyReturn =>
    refine ⟨_, rfl, ?_⟩
    split
    · exact ((FareMoves.keeps s.returnStores_keeps).andSame (State.returnBlocks_same _)).andMoves (State.returnPower_moves _)
    · exact .refl
  | coldStart =>
    refine ⟨_, rfl, ?_⟩
    split
    · exact s.coldStart_moves
    · exact .refl
  | commitWriteSuccess =>
    refine ⟨_, rfl, ?_⟩
    split
    · exact s.commitSucceeds_moves _
    · exact .refl
  | mirrorWriteSuccess =>
    refine ⟨_, rfl, ?_⟩
    split
    · exact (State.closeShift_moves _).after ⟨rfl, rfl, rfl, rfl, nofun⟩
    · exact .refl
  | dcsFalling =>
    refine ⟨_, rfl, ?_⟩
    split
    · exact .refl
    split
    · exact s.wake_moves.andSame (State.putFrame_same _ _)
    · exact .same ⟨rfl, rfl, rfl, rfl, id⟩
  | dcsRising clocked =>
    exact ⟨_, rfl, (State.honourStandby_moves _).after ⟨rfl, rfl, rfl, rfl, id⟩⟩
  | readClock | readTotalizers | readStatus | identify | readEvents | setEventMask =>
    exact ⟨_, rfl, takeCommand_same ⟨rfl, rfl, rfl, rfl, id⟩⟩
  | readTrip slot => exact ⟨_, rfl, takeCommand_moves fun _ => withSlot_moves fun _ _ _ => .refl⟩
  | answer | openStation | closeStation | talkPress | talkRelease | loadStage | stageWrite | readItem | enableCommit
  | standby | signSetup | readShift | releaseShift | watch =>
    refine ⟨_, rfl, takeCommand_same ?_⟩
    simp only [answerBody, openBody, closeBody, talkPressBody, talkReleaseBody, loadStageBody, stageWriteBody,
      readItemBody, enableCommitBody, standbyBody, signSetupBody, readShiftBody, releaseShiftBody, watchBody]
    repeat' split
    all_goals exact ⟨rfl, rfl, rfl, rfl, id⟩
  | clearAlert =>
    refine ⟨_, rfl, takeCommand_same ?_⟩
    unfold clearAlertBody
    split
    · exact okSign_same ⟨rfl, rfl, rfl, rfl, id⟩
    · exact ⟨rfl, rfl, rfl, rfl, id⟩
  | signDuty | shareAccept =>
    refine ⟨_, rfl, takeCommand_same ?_⟩
    simp only [signDutyBody, shareAcceptBody]
    split
    · exact ⟨rfl, rfl, rfl, rfl, id⟩
    · exact okSign_same ⟨rfl, rfl, rfl, rfl, id⟩
  | badCommand code =>
    refine ⟨_, rfl, ?_⟩
    split
    · exact .refl
    · exact s.takeUnlisted_moves code
  | watchModeExit => exact ⟨_, rfl, s.takeUnlisted_moves _⟩
  | fareQuery => exact ⟨_, rfl, takeMessage_moves fun _ => .same ⟨rfl, rfl, rfl, rfl, id⟩⟩
  | selectorWrite | connectionExpiry | talkExpiry | callChimeEnd | fareChimeEnd | linkReset =>
    refine ⟨_, rfl, .same ?_⟩
    split <;> exact ⟨rfl, rfl, rfl, rfl, id⟩
  | commitWriteFailure | mirrorWriteFailure =>
    refine ⟨_, rfl, ?_⟩
    split
    · exact .same ⟨rfl, rfl, rfl, rfl, nofun⟩
    · exact .refl
  | drstRising | batteryDomainLoss => exact ⟨_, rfl, .same ⟨rfl, rfl, rfl, rfl, id⟩⟩
  | partitionWriteDiscarded bytes =>
    refine ⟨_, rfl, ?_⟩
    split
    · exact .same (by constructor <;> simp)
    · exact .refl
  | noticeRead part =>
    refine ⟨_, rfl, ?_⟩
    split
    · exact .same (s.readNotice_same part)
    · exact .refl
  | callTimerExpiry x =>
    refine ⟨_, rfl, ?_⟩
    split
    · exact .same (s.callExpires_same x)
    · exact .refl
  | svcSample high =>
    refine ⟨_, rfl, ?_⟩
    split
    · exact .refl
    · exact .same (s.sampleSwitch_same high)
  | buttonSample x pressed =>
    refine ⟨_, rfl, ?_⟩
    split
    · exact .same (s.sampleButton_same x pressed)
    · exact .refl
  | lampPeriodEnd w =>
    refine ⟨_, rfl, ?_⟩
    split
    · exact .same ((s.sampleLamps_same w).trans ⟨rfl, rfl, rfl, rfl, id⟩)
    · exact .refl

/-- Each step is a chain of moves of the fares. -/
theorem step_moves {s t : State} (h : step s = .next t) : FareMoves s t := by
  unfold step at h
  split at h
  · cases h
    exact State.inActive_moves (.same ⟨rfl, rfl, rfl, rfl, id⟩)
  · rename_i c rest _
    obtain ⟨u, hu, hm⟩ := exec_moves c { s with pending := rest }
    rw [hu] at h; cases h
    exact hm.after ⟨rfl, rfl, rfl, rfl, id⟩

/-- Settles O6: each elementary move of the fares keeps each of the three, and every step is a chain of such moves. -/
theorem fareTableStaysSound : Obligations.FareTableStaysSound := by
  refine ⟨fun s t h hst => ?_, fun s t h hst => ?_, fun s t hd hb hst => ?_⟩
  · exact (step_moves hst).preserves (fun _ _ hm => hm.dueIsSum) h
  · exact (step_moves hst).preserves (fun _ _ hm => hm.tripNumbersDiffer) h
  · exact ((step_moves hst).preserves (P := fun u => TripNumbersDiffer u ∧ BoundOnce u)
      (fun _ _ hm hu => ⟨hm.tripNumbersDiffer hu.1, hm.boundOnce hu.1 hu.2⟩) ⟨hd, hb⟩).2

/-- Settles O7: each elementary move of the fares keeps each of the four, and every step is a chain of such moves. -/
theorem faresKeepTheirConditions : Obligations.FaresKeepTheirConditions := by
  refine ⟨fun s t h hst => ?_, fun s t h hst => ?_, fun s t h hst => ?_, fun s t h hst => ?_⟩
  · exact (step_moves hst).preserves (fun _ _ hm => hm.windowsAgree) h
  · exact (step_moves hst).preserves (fun _ _ hm => hm.faresUnderShift) h
  · exact (step_moves hst).preserves (fun _ _ hm => hm.faresFitPower) h
  · exact (step_moves hst).preserves (fun _ _ hm => hm.freeDuringCommit) h

end Sys2Proof.Machine
end

section
/-! PROOFS. How a command that is served answers; the reads (O16), START FARE (O17, O18) and RELEASE TRIP (O23). -/

namespace Sys2Proof.Machine

/-! ### The answer of a served command -/

theorem Serving.serves {s : State} (h : Serving s) : s.serves = true := by
  obtain ⟨⟨hp, -⟩, hf⟩ := h
  simp [State.serves, hp, hf]

/-- R141, R179: a served command leaves its effect, its answer in the frame, and the sign derived again. -/
theorem takeCommand_served {args : Nat} {body : State → Reply × State} {s u : State} {result : ResultCode}
    {response : List Byte} (h : Serving s) (hb : body s = (⟨result, response, .nothing⟩, u)) :
    takeCommand args body s = (u.reply args result response).followSign := by
  unfold takeCommand
  rw [if_pos h.serves, hb]
  rfl

/-- R141: where the sign follows what the command leaves, deriving it again changes nothing. -/
theorem takeCommand_followed {args : Nat} {body : State → Reply × State} {s u : State} {result : ResultCode}
    {response : List Byte} (h : Serving s) (hb : body s = (⟨result, response, .nothing⟩, u)) (hu : SignFollows u) :
    takeCommand args body s = u.reply args result response :=
  (takeCommand_served h hb).trans (State.followSign_of_follows hu)

/-- A served command that leaves the state as it was changes nothing but its frame. -/
theorem takeCommand_read {args : Nat} {body : State → Reply × State} {s : State} {result : ResultCode}
    {response : List Byte} (h : Serving s) (hb : body s = (⟨result, response, .nothing⟩, s)) :
    takeCommand args body s = s.reply args result response :=
  takeCommand_followed h hb h.1.2

/-- R5: a command that names an occupied slot is taken on its record. -/
theorem withSlot_occupied {length : Nat} {slot : Byte} {s : State} {f : Fin 4 → Trip → Reply × State} {i : Fin 4}
    {t : Trip} (hi : slotArg slot = some i) (ht : s.slot i = some t) : withSlot length slot s f = f i t := by
  simp [withSlot, hi, ht]

/-! ### The reads -/

/-- R86: outside a commit write the active image is read while it is VALID. -/
theorem Store.readableImage_active {t : Store} (h : t.state ≠ .commitWrite) (hv : t.valid = true) :
    t.readableImage = some t.active := by
  unfold Store.readableImage
  split
  · rename_i e; exact absurd e h
  · exact if_pos hv

/-- R86: during a commit write the active image is read from a VALID read copy. -/
theorem Store.readableImage_copy {t : Store} {copy : ReadCopy} (h : t.state = .commitWrite) (hc : t.readCopy = some copy)
    (hv : copy.valid = true) : t.readableImage = some copy.image := by
  simp [Store.readableImage, h, hc, hv]

theorem readItemBody_active {selector : Nat} {s : State} {k : Item} {img : Image} (hk : itemOf selector = some k)
    (hi : s.store.readableImage = some img) : readItemBody 0 selector s = ok (le4 (img.item k)) s := by
  simp [readItemBody, hk, hi]

theorem readItemBody_staging {selector : Nat} {s : State} {k : Item} (hk : itemOf selector = some k)
    (hl : s.store.stagingLoaded = true) : readItemBody 1 selector s = ok (le4 (s.store.staging.item k)) s := by
  simp [readItemBody, hk, hl]

/-- Settles O16: each read's body answers with its block or item and leaves the state. -/
theorem readsAnswerAndChangeNothing : Obligations.ReadsAnswerAndChangeNothing := by
  refine ⟨fun s h => ⟨?_, ?_, ?_, ?_, ?_, ?_, ?_⟩, fun s selector k h hk => ⟨?_, ?_, ?_⟩⟩
  · exact fun slot i t hi ht => congrArg _ (takeCommand_read h (withSlot_occupied hi ht))
  · exact congrArg _ (takeCommand_read h rfl)
  · exact fun sh hs => congrArg _ (takeCommand_read h (by simp [readShiftBody, State.namedShift, hs, ok]))
  · exact fun sh hs => congrArg _ (takeCommand_read h (by simp [readShiftBody, State.namedShift, hs, ok]))
  · exact congrArg _ (takeCommand_read h rfl)
  · exact congrArg _ (takeCommand_read h rfl)
  · exact congrArg _ (takeCommand_read h rfl)
  · exact fun hl => congrArg _ (takeCommand_read h (readItemBody_staging hk hl))
  · exact fun hc hv => congrArg _ (takeCommand_read h (readItemBody_active hk (Store.readableImage_active hc hv)))
  · exact fun copy hc hr hv =>
      congrArg _ (takeCommand_read h (readItemBody_active hk (Store.readableImage_copy hc hr hv)))

/-! ### START FARE -/

/-- The first slot number that meets a test is found. -/
theorem find_slotNumbers_first {p : Fin 4 → Bool} {i : Fin 4} (h : p i = true) (hl : ∀ j, j < i → p j = false) :
    slotNumbers.find? p = some i := by
  match i with
  | 0 => simp [slotNumbers, h]
  | 1 => simp [slotNumbers, h, hl 0 (by decide)]
  | 2 => simp [slotNumbers, h, hl 0 (by decide), hl 1 (by decide)]
  | 3 => simp [slotNumbers, h, hl 0 (by decide), hl 1 (by decide), hl 2 (by decide)]

/-- R1: the lowest FREE slot. -/
theorem State.freeSlot_eq {s : State} {i : Fin 4} (hi : s.slot i = none) (hl : ∀ j, j < i → s.slot j ≠ none) :
    s.freeSlot = some i :=
  find_slotNumbers_first (by simp [hi]) (fun j hj => by simpa [Option.isNone_eq_false_iff, Option.isSome_iff_ne_none] using hl j hj)

theorem State.freeSlot_none {s : State} (h : ∀ i, s.slot i ≠ none) : s.freeSlot = none :=
  List.find?_eq_none.2 fun i _ => by simpa using h i

/-- R1: with some slot FREE one is found. -/
theorem State.freeSlot_isSome {s : State} (h : ∃ i, s.slot i = none) : ∃ i, s.freeSlot = some i := by
  obtain ⟨i, hi⟩ := h
  have hm : i ∈ slotNumbers := by fin_cases i <;> decide
  exact Option.isSome_iff_exists.1 (List.find?_isSome.2 ⟨i, hm, by simp [hi]⟩)

theorem State.anyBound_eq_true {s : State} {g : StationSet} :
    s.anyBound g = true ↔ ∃ x, g.has x = true ∧ s.isBound x = true := by
  rw [← Bool.not_eq_false, State.anyBound_eq_false]
  simp

theorem State.anyActive_eq_true {s : State} :
    s.anyActive = true ↔ ∃ i t, s.slot i = some t ∧ t.state.isActive = true := by
  rw [← Bool.not_eq_false, State.anyActive_eq_false]
  simp

/-- R6, R114: the fare becomes active beside none that refuses to share, and itself permits it where it is not alone. -/
theorem State.privateClash_eq_false {s : State} {share otherActive : Bool} :
    s.privateClash share otherActive = false
      ↔ (∀ i t, s.slot i = some t → t.state.isActive = true → t.share = true) ∧ (otherActive = true → share = true) := by
  have e : s.slots.list.any refusesShare = false ↔ ∀ i, refusesShare (s.slot i) = false := by
    simp [Four.list, State.slot, Fin.forall_fin_succ, Four.get]
  have e' : (∀ i, refusesShare (s.slot i) = false)
      ↔ ∀ i t, s.slot i = some t → t.state.isActive = true → t.share = true := by
    refine forall_congr' fun i => ?_
    cases s.slot i <;> simp [refusesShare]
  rw [State.privateClash, Bool.or_eq_false_iff, e, e']
  cases share <;> simp

/-- R6: arguments that have no meaning are refused. -/
theorem startFareBody_badArg {set share selection tariff : Byte} {s : State}
    (h : setArg set = none ∨ switchArg share = none ∨ selectionArg selection tariff = none) :
    startFareBody set share selection tariff s = refuse 7 .badArg s := by
  unfold startFareBody
  split
  · rename_i e1 e2 e3; simp [e1, e2, e3] at h
  · rfl

theorem startFareBody_with {set share selection tariff : Byte} {g : StationSet} {p : Bool} {sel : Selection} {s : State}
    (hg : setArg set = some g) (hp : switchArg share = some p) (hs : selectionArg selection tariff = some sel) :
    startFareBody set share selection tariff s = startFareWith g p sel s := by
  simp [startFareBody, hg, hp, hs]

theorem startFareWith_noShift {g : StationSet} {p : Bool} {sel : Selection} {s : State}
    (h : ∀ sh, s.shift = some sh → sh.state ≠ .opened) : startFareWith g p sel s = refuse 7 .noShift s := by
  unfold startFareWith
  split
  · rfl
  · rename_i sh hs; exact if_pos (h sh hs)

section
variable {g : StationSet} {p : Bool} {sel : Selection} {sh : Shift} {n : Nat} {s : State}

/-- R6: the two checks after NO_SHIFT, under an OPEN shift. -/
theorem startFareWith_opened (hs : s.shift = some sh) (ho : sh.state = .opened) :
    startFareWith g p sel s
      = if !s.cal.clockSet then refuse 7 .clockUnset s else if s.store.busy then refuse 7 .busy s
        else startFareUnder sh g p sel s := by
  simp [startFareWith, hs, ho]

theorem startFareWith_ready (hs : s.shift = some sh) (ho : sh.state = .opened) (hc : s.cal.clockSet = true)
    (hi : s.store.state = .idle) : startFareWith g p sel s = startFareUnder sh g p sel s := by
  simp [startFareWith_opened hs ho, hc, Store.busy, hi]

/-- R6: the checks after those of the tariff, with a tariff found. -/
theorem startFareUnder_tariff (hv : s.store.valid = true) (hm : manualRefused s.store.active sel = false)
    (hn : s.firstTariff sel = some n) :
    startFareUnder sh g p sel s = match s.freeSlot with
      | none => refuse 7 .noSlot s
      | some i =>
        if s.anyBound g then refuse 7 .stationBusy s
        else if s.privateClash p s.anyActive then refuse 7 .privacy s
        else
          ok (byte i.val :: tripDue (newTrip (s.takenNumber sh) g p sel s.cal.time n (s.store.active.tariff n)))
            (s.startFare i (newTrip (s.takenNumber sh) g p sel s.cal.time n (s.store.active.tariff n))) := by
  unfold startFareUnder
  simp only [hv, hm, hn]
  rfl

end

/-- Settles O17: the checks of START FARE, each after those before it. -/
theorem startFareChecksInOrder : Obligations.StartFareChecksInOrder := by
  constructor
  · intro set share selection tariff s h
    refine ⟨fun ha => congrArg _ (takeCommand_read h (startFareBody_badArg ha)), ?_⟩
    intro g p sel hg hp hsel
    have hw : startFareBody set share selection tariff s = startFareWith g p sel s := startFareBody_with hg hp hsel
    refine ⟨fun hn => congrArg _ (takeCommand_read h (hw.trans (startFareWith_noShift hn))), ?_⟩
    intro sh hs ho
    have hw' := hw.trans (startFareWith_opened hs ho)
    refine ⟨?_, ?_, ?_, ?_⟩
    · exact fun hc => congrArg _ (takeCommand_read h (hw'.trans (by simp [hc, refuse])))
    · exact fun hc hi => congrArg _ (takeCommand_read h (hw'.trans (by simp [hc, Store.busy, hi, refuse])))
    · intro hc hi hv
      refine congrArg _ (takeCommand_read h ((hw.trans (startFareWith_ready hs ho hc hi)).trans ?_))
      simp [startFareUnder, hv, refuse]
    · rintro hc hi hv n rfl hd
      refine congrArg _ (takeCommand_read h ((hw.trans (startFareWith_ready hs ho hc hi)).trans ?_))
      have hm : manualRefused s.store.active (.manual n) = true := by
        simpa [manualRefused, Image.isDefined] using hd
      simp [startFareUnder, hv, hm, refuse]
  · intro set share selection tariff g p sel sh n s h hg hp hsel hs ho hc hi hv hm hn
    have hw : startFareBody set share selection tariff s = _ :=
      ((startFareBody_with hg hp hsel).trans (startFareWith_ready hs ho hc hi)).trans (startFareUnder_tariff hv hm hn)
    refine ⟨?_, ?_, ?_⟩
    · exact fun hf => congrArg _ (takeCommand_read h (hw.trans (by rw [State.freeSlot_none hf]; rfl)))
    · intro hf hb
      obtain ⟨i, hi⟩ := State.freeSlot_isSome hf
      have hb := State.anyBound_eq_true.2 hb
      exact congrArg _ (takeCommand_read h (hw.trans (by simp [hi, hb, refuse])))
    · intro hf hb hx
      obtain ⟨i, hi⟩ := State.freeSlot_isSome hf
      have hb := State.anyBound_eq_false.2 hb
      have hx : s.privateClash p s.anyActive = true := by
        rw [← Bool.not_eq_false, State.privateClash_eq_false, not_and_or]
        rcases hx with ⟨i, t, ht, ha, hs⟩ | ⟨rfl, ha⟩
        · exact .inl fun hall => by simp [hall i t ht ha] at hs
        · exact .inr fun hall => by simp [State.anyActive_eq_true.2 ha] at hall
      exact congrArg _ (takeCommand_read h (hw.trans (by simp [hi, hb, hx, refuse])))

/-- Settles O18: the body of an accepted START FARE, and the search for the number. -/
theorem startFareCreatesTheFare : Obligations.StartFareCreatesTheFare := by
  constructor
  · intro set share selection tariff g p sel sh n i s h hg hp hsel hs ho hc hidle hv hm hn hi hl hb ha
    have hclash : s.privateClash p s.anyActive = false := by
      refine State.privateClash_eq_false.2 ⟨fun j t ht hact => (ha j t ht hact).1, fun hany => ?_⟩
      obtain ⟨j, t, ht, hact⟩ := State.anyActive_eq_true.1 hany
      exact (ha j t ht hact).2
    have hbody : startFareBody set share selection tariff s = _ :=
      ((startFareBody_with hg hp hsel).trans (startFareWith_ready hs ho hc hidle)).trans (startFareUnder_tariff hv hm hn)
    refine ⟨_, rfl, congrArg Host.Outcome.next ?_⟩
    refine (takeCommand_served h (hbody.trans (by
      rw [State.freeSlot_eq hi hl]
      simp only [State.anyBound_eq_false.2 hb, hclash]
      rfl))).trans ?_
    simp only [State.startFare, State.reply, State.count, State.credit, State.putSlot, State.onSlots, hs, Option.map_some]
    rfl
  · intro s sh
    obtain ⟨k, -, he, hm, -⟩ := freshNumber_spec s.heldNumbers s.heldNumbers.length sh.nextTrip
    exact ⟨s.takenNumber_fresh sh, k, he, fun m h => (s.mem_heldNumbers _).1 (hm m h)⟩

/-! ### RELEASE TRIP -/

/-- Settles O23: the three checks of RELEASE TRIP in their order, and the slot freed. -/
theorem releaseTripFreesTheSlot : Obligations.ReleaseTripFreesTheSlot := by
  intro slot trip i t s h hi ht
  have hb : releaseTripBody slot trip.toNat s
      = if t.state ≠ .settled then refuse 0 .badState s else if t.number ≠ trip.toNat then refuse 0 .mismatch s
        else if t.hold.any (·.state == .releasePending) then refuse 0 .holdOpen s else ok [] (s.releaseTrip i t) :=
    withSlot_occupied hi ht
  refine ⟨?_, ?_, ?_, ?_⟩
  · exact fun hs => congrArg _ (takeCommand_read h (hb.trans (if_pos hs)))
  · exact fun hs hn => congrArg _ (takeCommand_read h (hb.trans (by simp [hs, hn, refuse, zeros])))
  · exact fun g hs hn hg hp => congrArg _ (takeCommand_read h (hb.trans (by simp [hs, hn, hg, hp, refuse, zeros])))
  · intro hs hn hg
    have hp : t.hold.any (·.state == .releasePending) = false := by
      cases e : t.hold with
      | none => rfl
      | some g => simpa using hg g e
    exact congrArg _ (takeCommand_served h (hb.trans (show _ = ok [] (s.releaseTrip i t) by simp [hs, hn, hp])))

end Sys2Proof.Machine
end

section
/-! PROOFS. PAUSE, RESUME, STOP and REOPEN FARE (O19 to O21) with the settlement of a partial window. -/

namespace Sys2Proof.Machine

/-! ### The sign over records of the same shape -/

/-- R140: a sign that follows still follows where the records keep their shapes and the other inputs are as they were. -/
theorem SignFollows.of_shapes {s t : State} (h : SignFollows s) (hg : t.sign = s.sign)
    (hp : t.supply.power = s.supply.power) (hs : t.shift = s.shift)
    (hr : ∀ j, (t.slot j).map Trip.shape = (s.slot j).map Trip.shape) : SignFollows t := by
  have e : t.deriveSign = s.deriveSign := by
    refine State.deriveSign_of_shapes hp ?_ ?_ ?_ ?_ hr
    · rw [hg]
    · rw [hg]
    · rw [hg]
    · unfold State.shiftIsOpen; rw [hs]
  exact (congrArg Sign.shown hg).trans (h.trans e.symm)

/-- R140: a record replaced by one of the same shape leaves the sign as it follows. -/
theorem SignFollows.putSlot {s : State} (h : SignFollows s) {i : Fin 4} {t u : Trip} (ht : s.slot i = some t)
    (hu : u.shape = t.shape) : SignFollows (s.putSlot i (some u)) :=
  h.of_shapes rfl rfl rfl (State.putSlot_shapes ht hu)

/-- R39: the settlement of a window keeps the shapes of the records. -/
theorem State.settleSlot_shapes (k : Nat) (i j : Fin 4) (s : State) :
    ((s.settleSlot k i).slot j).map Trip.shape = (s.slot j).map Trip.shape := by
  by_cases e : j = i
  · subst e
    unfold State.settleSlot
    cases ht : s.slot j with
    | none => simp [ht]
    | some t =>
      dsimp only
      split
      · obtain ⟨u, hu, h1, -, h2, -⟩ := State.engine_slot j t (settleWindow (s.tariffOf t) k t) s
        obtain ⟨f1, -, f2, -⟩ := settleWindow_frame (s.tariffOf t) k t
        simp [hu, Trip.shape, h1, h2, f1, f2]
      · simp [ht]
  · rw [State.settleSlot_slot_ne e]

/-! ### The settlement of a partial window -/

/-- R37, R105: the engine's test of a record `w` made of the RUNNING fare `t` is that of the warning. -/
theorem warnsHold_iff {s : State} {t w : Trip} {h : Hold} :
    WarnsHold s t w h ↔ w.stepTotal ≠ t.stepTotal ∧ warningDue s.store.active w h = true := by
  simp only [WarnsHold, warningDue, Bool.and_eq_true, Bool.not_eq_true', decide_eq_true_eq, beq_iff_eq, and_assoc]
  rfl

/-- R39: the settlement of a RUNNING fare is the engine's on the record of its settled window. -/
theorem State.settleSlot_running {s : State} {k : Nat} {i : Fin 4} {t : Trip} (ht : s.slot i = some t)
    (hr : t.state = .running) :
    s.settleSlot k i = s.engine i t (settleWindow (s.store.active.tariff t.currentTariff) k t) := by
  simp [State.settleSlot, ht, hr, State.tariffOf]

/-- R39: a fare that is not RUNNING has nothing to settle. -/
theorem State.settleSlot_other {s : State} {k : Nat} {i : Fin 4} {t : Trip} (ht : s.slot i = some t)
    (hr : t.state ≠ .running) : s.settleSlot k i = s := by
  simp [State.settleSlot, ht, hr]

/-- R37, R39, R105: with no warning due, the record of the settled window is put in its slot. -/
theorem State.settleSlot_unwarned {s : State} {k : Nat} {i : Fin 4} {t w : Trip} (ht : s.slot i = some t)
    (hr : t.state = .running) (hw : w = settleWindow (s.store.active.tariff t.currentTariff) k t)
    (hn : ∀ h, t.hold = some h → ¬ WarnsHold s t w h) : s.settleSlot k i = s.putSlot i (some w) := by
  have hp : w.hold = t.hold := by
    rw [Trip.hold, hw, (settleWindow_frame ..).2.2.2.1]; rfl
  rw [State.settleSlot_running ht hr, ← hw]
  exact State.engine_unwarned fun g hg hd => hn g (hp ▸ hg) (warnsHold_iff.2 hd)

/-- R37, R39, R105: with the warning due, the record is put with its hold warned, TOP_UP is posted and HOLD set. -/
theorem State.settleSlot_warned {s : State} {k : Nat} {i : Fin 4} {t w : Trip} {p : Payment} {h : Hold}
    (ht : s.slot i = some t) (hr : t.state = .running)
    (hw : w = settleWindow (s.store.active.tariff t.currentTariff) k t) (hp : t.payment = some p) (hh : p.hold = some h)
    (hd : WarnsHold s t w h) :
    s.settleSlot k i = ((s.putSlot i (some { w with payment := some { p with hold := some { h with warned := true } } })).post
      h.station (.topUp w.number w.totalDue h.reference h.amount)).raise .hold := by
  have hwp : w.payment = some p := by rw [hw, (settleWindow_frame ..).2.2.2.1, hp]
  obtain ⟨hs, hd⟩ := warnsHold_iff.1 hd
  rw [State.settleSlot_running ht hr, ← hw]
  exact State.engine_warned hwp hh hs hd

/-- R39: the settlement of a RUNNING fare's window leaves a RUNNING fare with its window empty. -/
theorem State.settleSlot_settles {s : State} {i : Fin 4} {t : Trip} (ht : s.slot i = some t) (hr : t.state = .running) :
    ∃ u, (s.settleSlot s.runningCount i).slot i = some u ∧ u.state = .running ∧ u.window = 0 ∧ SettlesWindow i t u s := by
  obtain ⟨f1, f2, -⟩ := settleWindow_frame (s.store.active.tariff t.currentTariff) s.runningCount t
  obtain ⟨u, hu, hs, hz, -⟩ :=
    State.engine_slot i t (settleWindow (s.store.active.tariff t.currentTariff) s.runningCount t) s
  rw [← State.settleSlot_running ht hr] at hu
  refine ⟨u, hu, hs.trans (f1.trans hr), hz.trans f2, fun w hw => ⟨fun hn => ?_, fun p h hp hh hd => ?_⟩⟩
  · have e := State.settleSlot_unwarned ht hr hw hn
    rw [e, State.putSlot_slot_same] at hu
    cases hu
    exact ⟨rfl, e⟩
  · have e := State.settleSlot_warned ht hr hw hp hh hd
    rw [e] at hu
    have hu := (State.putSlot_slot_same i _ s).symm.trans hu
    cases hu
    exact ⟨rfl, e⟩

/-! ### PAUSE FARE and RESUME FARE -/

/-- The record of a slot changed where one stands. -/
theorem State.modSlot_some {s : State} {i : Fin 4} {t : Trip} (ht : s.slot i = some t) (f : Trip → Trip) :
    s.modSlot i f = s.putSlot i (some (f t)) := by
  simp [State.modSlot, ht]

/-- R17: the response of a slot command, with the record it left in its slot. -/
theorem okSlot_eq {s : State} {i : Fin 4} {t : Trip} (ht : s.slot i = some t) :
    okSlot i s = ok (le2 t.number ++ le4 t.totalDue) s := by
  simp [okSlot, State.slotDue, ht, tripDue]

/-- R17: a slot command that ends by putting a record in its slot answers with that record. -/
theorem okSlot_putSlot (s : State) (i : Fin 4) (t : Trip) :
    okSlot i (s.putSlot i (some t)) = ok (le2 t.number ++ le4 t.totalDue) (s.putSlot i (some t)) :=
  okSlot_eq (State.putSlot_slot_same i (some t) s)

/-- Settles O19: the settlement of a RUNNING fare's window is that of R39, and neither command changes a record's shape. -/
theorem pauseAndResumeFare : Obligations.PauseAndResumeFare := by
  constructor
  · intro slot i t s h hi ht hr
    obtain ⟨u, hu, hur, hz, hw⟩ := State.settleSlot_settles ht hr
    refine ⟨u, hu, hur, hz, hw, congrArg Host.Outcome.next ?_⟩
    have hf : SignFollows ((s.settleSlot s.runningCount i).putSlot i (some { u with state := .paused })) := by
      have hf' : SignFollows (s.settleSlot s.runningCount i) :=
        h.1.2.of_shapes (by simp) (by simp) (by simp) (fun j => State.settleSlot_shapes _ i j s)
      exact hf'.putSlot hu (by simp [Trip.shape, hur, FareState.isActive])
    refine takeCommand_followed h ?_ hf
    rw [pauseFareBody, withSlot_occupied hi ht, if_pos hr, State.pauseFare, State.modSlot_some hu, okSlot_putSlot]
    rfl
  · intro slot i t s h hi ht hr
    refine congrArg Host.Outcome.next (takeCommand_followed h ?_ (h.1.2.putSlot ht
      (u := { t with state := .running, powerPaused := false }) (by simp [Trip.shape, hr, FareState.isActive])))
    rw [resumeFareBody, withSlot_occupied hi ht, if_pos hr, okSlot_putSlot]
    rfl

/-! ### STOP FARE -/

/-- Notices leave the slots as they are. -/
theorem State.postAll_slot (g : StationSet) (n : Notice) (s : State) (j : Fin 4) : (s.postAll g n).slot j = s.slot j :=
  State.slot_congr (by simp) j

/-- Settles O20: the settlement of a RUNNING fare's window is that of R39, a PAUSED fare's window is left, and the fare,
active before and after, keeps its shape. -/
theorem stopFareStopsAndAnnounces : Obligations.StopFareStopsAndAnnounces := by
  intro slot i t s h hi ht hs
  have hact : t.state.isActive = true := by rcases hs with hs | hs <;> simp [hs, FareState.isActive]
  obtain ⟨u, hu, hr, hp⟩ : ∃ u, (s.settleSlot s.runningCount i).slot i = some u
      ∧ (t.state = .running → SettlesWindow i t u s) ∧ (t.state = .paused → u = t ∧ s.settleSlot s.runningCount i = s) := by
    rcases hs with hs | hs
    · obtain ⟨u, hu, -, -, hw⟩ := State.settleSlot_settles ht hs
      exact ⟨u, hu, fun _ => hw, fun hp => by simp [hs] at hp⟩
    · have e : s.settleSlot s.runningCount i = s := State.settleSlot_other ht (by simp [hs])
      exact ⟨t, e.symm ▸ ht, fun hr => by simp [hs] at hr, fun _ => ⟨rfl, e⟩⟩
  have hua : u.state.isActive = true := State.settleSlot_active ht hact hu
  have hf : SignFollows (s.settleSlot s.runningCount i) :=
    h.1.2.of_shapes (by simp) (by simp) (by simp) (fun j => State.settleSlot_shapes _ i j s)
  refine ⟨u, _, hu, hr, hp, rfl, congrArg Host.Outcome.next ?_⟩
  refine takeCommand_followed h ?_ ?_
  · rw [stopFareBody, withSlot_occupied hi ht, if_pos hs, State.stopFare, State.modSlot_some hu, State.announceStop,
      State.putSlot_slot_same]
    exact okSlot_eq ((State.postAll_slot _ _ _ i).trans (State.putSlot_slot_same i _ _))
  · refine SignFollows.of_shapes (hf.putSlot hu (u := u.stopAt s.cal.time) (congrArg (·, u.share) hua.symm)) ?_ ?_ ?_ ?_
    · simp [Trip.stopAt]
    · simp
    · simp
    · intro j; exact congrArg _ (State.postAll_slot _ _ _ j)

/-! ### REOPEN FARE -/

/-- R13, R41: a reopened fare takes no new segment where the calendar tariff is its own. -/
theorem State.catchUp_same {s : State} {t : Trip}
    (h : ∀ c, s.cal.tariff = some c → t.selection = .calendar → c = t.currentTariff) : s.catchUp t = t := by
  unfold State.catchUp
  split
  · rfl
  · rename_i c hc
    refine if_neg fun hl => ?_
    simp [Trip.lags] at hl
    exact hl.2 (h c hc hl.1).symm

/-- R13, R41: a reopened fare takes a new segment where the calendar tariff has moved. -/
theorem State.catchUp_moved {s : State} {t : Trip} {c : Nat} (hc : s.cal.tariff = some c) (hs : t.selection = .calendar)
    (hne : c ≠ t.currentTariff) : s.catchUp t = startSegment s.store.active c s.cal.time t := by
  simp [State.catchUp, hc, Trip.lags, hs, Ne.symm hne]

/-- R13: REOPEN FARE on a STOPPED fare is refused as its grace refuses it. -/
theorem reopenFareBody_refused {slot : Byte} {i : Fin 4} {t : Trip} {s : State} {code : ResultCode}
    (hi : slotArg slot = some i) (ht : s.slot i = some t) (hst : t.state = .stopped) (hg : graceRefusal t = some code) :
    reopenFareBody slot s = refuse 6 code s := by
  rw [reopenFareBody, withSlot_occupied hi ht, if_neg (by simp [hst]), if_neg (by simp [hst]), hg]

/-- R13: REOPEN FARE on a STOPPED fare within its grace puts the reopened record in the slot. -/
theorem reopenFareBody_within {slot : Byte} {i : Fin 4} {t : Trip} {s : State} (hi : slotArg slot = some i)
    (ht : s.slot i = some t) (hst : t.state = .stopped) (hg : graceRefusal t = none) :
    reopenFareBody slot s = okSlot i (s.putSlot i (some (s.reopened t))) := by
  rw [reopenFareBody, withSlot_occupied hi ht, if_neg (by simp [hst]), if_neg (by simp [hst]), hg]

/-- Settles O21: the grace's refusals, then the record that runs again, with the segment of a moved calendar tariff. -/
theorem reopenFareWithinItsGrace : Obligations.ReopenFareWithinItsGrace := by
  rintro slot i t u g s h hi ht hst hg rfl
  have hopen : g.attempted = false → g.count < 20 → graceRefusal t = none := fun ha hc => by
    simp [graceRefusal, hg, ha, graceMax, Nat.not_le.2 hc]
  refine ⟨fun ha => ?_, fun ha hc => ?_, fun ha hc hcal => ?_, fun c ha hc hcal hsel hne => ?_⟩
  · have hr : graceRefusal t = some .paying := by simp [graceRefusal, hg, ha]
    exact congrArg _ (takeCommand_read h (reopenFareBody_refused hi ht hst hr))
  · have hr : graceRefusal t = some .tooLate := by simp [graceRefusal, hg, ha, graceMax, hc]
    exact congrArg _ (takeCommand_read h (reopenFareBody_refused hi ht hst hr))
  · have hu : s.reopened t = { t with state := .running, stop := none, grace := none } := State.catchUp_same hcal
    have hb := reopenFareBody_within hi ht hst (hopen ha hc)
    rw [hu, okSlot_putSlot] at hb
    exact congrArg Host.Outcome.next
      (takeCommand_followed h hb (h.1.2.putSlot ht (by simp [Trip.shape, hst, FareState.isActive])))
  · have hu : s.reopened t = _ :=
      State.catchUp_moved (t := { t with state := .running, stop := none, grace := none }) hcal hsel hne
    obtain ⟨f1, f2, f3, f4⟩ := startSegment_frame s.store.active c s.cal.time
      { t with state := .running, stop := none, grace := none }
    have hb := reopenFareBody_within hi ht hst (hopen ha hc)
    rw [hu, okSlot_putSlot, f3, f4] at hb
    exact congrArg Host.Outcome.next
      (takeCommand_followed h hb (h.1.2.putSlot ht (by simp [Trip.shape, f1, f2, hst, FareState.isActive])))

end Sys2Proof.Machine
end

section
/-! PROOFS. ADD EXTRA and CANCEL EXTRA (O22). -/

namespace Sys2Proof.Machine

/-! ### The extras list -/

/-- R3: adding to a kind raises its count. -/
theorem extraCount_addExtra (kind n : Nat) (l : List Extra) :
    extraCount kind (addExtra kind n l) = extraCount kind l + n := by
  induction l with
  | nil => simp [addExtra, extraCount]
  | cons e l ih =>
    by_cases h : e.kind = kind
    · simp [addExtra, extraCount, h]
    · simp [addExtra, extraCount, h, ih]

/-- R3: a kind that is not in the list has the count 0. -/
theorem extraCount_absent {kind : Nat} {l : List Extra} (h : ∀ d ∈ l, d.kind ≠ kind) : extraCount kind l = 0 := by
  induction l with
  | nil => rfl
  | cons d l ih => simp [extraCount, h d, ih fun c hc => h c (List.mem_cons_of_mem d hc)]

/-- R3: a kind that is not in the list is added at its end. -/
theorem addExtra_absent {kind : Nat} {l : List Extra} (n : Nat) (h : ∀ d ∈ l, d.kind ≠ kind) :
    addExtra kind n l = l ++ [{ kind := kind, count := n }] := by
  induction l with
  | nil => rfl
  | cons d l ih => simp [addExtra, h d, ih fun c hc => h c (List.mem_cons_of_mem d hc)]

/-- The count of a kind is not found among entries of other kinds. -/
theorem extraCount_append {kind : Nat} {before : List Extra} (rest : List Extra) (h : ∀ d ∈ before, d.kind ≠ kind) :
    extraCount kind (before ++ rest) = extraCount kind rest := by
  induction before with
  | nil => rfl
  | cons d l ih => simp [extraCount, h d, ih fun c hc => h c (List.mem_cons_of_mem d hc)]

/-- R3: entries of other kinds before the kind's own are kept by an addition. -/
theorem addExtra_append {kind : Nat} {before : List Extra} (n : Nat) (rest : List Extra)
    (h : ∀ d ∈ before, d.kind ≠ kind) : addExtra kind n (before ++ rest) = before ++ addExtra kind n rest := by
  induction before with
  | nil => rfl
  | cons d l ih => simp [addExtra, h d, ih fun c hc => h c (List.mem_cons_of_mem d hc)]

/-- R3: entries of other kinds before the kind's own are kept by a cancellation. -/
theorem cancelExtra_append {kind : Nat} {before : List Extra} (rest : List Extra) (h : ∀ d ∈ before, d.kind ≠ kind) :
    cancelExtra kind (before ++ rest) = before ++ cancelExtra kind rest := by
  induction before with
  | nil => rfl
  | cons d l ih => simp [cancelExtra, h d, ih fun c hc => h c (List.mem_cons_of_mem d hc)]

/-- R3: a list that is led by the kind's own entry, where no other entry has the kind, loses one count by a cancellation. -/
theorem extraCount_cancelExtra_cons {kind : Nat} {e : Extra} {after : List Extra} (he : e.kind = kind)
    (h : ∀ d ∈ after, d.kind ≠ kind) : extraCount kind (cancelExtra kind (e :: after)) = e.count - 1 := by
  by_cases hc : e.count ≤ 1
  · simp [cancelExtra, he, hc, extraCount_absent h]
  · simp [cancelExtra, he, hc, extraCount]

/-! ### What the two commands leave of the sign -/

/-- R15, R16: posting the new DUE of a STOPPED fare leaves the sign as it follows. -/
theorem SignFollows.repostDue {s : State} (h : SignFollows s) (t : Trip) : SignFollows (s.repostDue t) :=
  have e := State.repostDue_same t s
  h.of_shapes (by unfold State.repostDue; split <;> simp [State.postDue])
    (by unfold State.repostDue; split <;> simp [State.postDue])
    (by unfold State.repostDue; split <;> simp [State.postDue])
    fun j => congrArg _ (State.slot_congr e.slots j)

/-- R105: the hold warning check leaves the sign as it follows. -/
theorem SignFollows.holdWarning {s : State} (h : SignFollows s) (i : Fin 4) : SignFollows (s.holdWarning i) :=
  h.of_shapes (by simp) (by simp) (by simp) fun j => State.holdWarning_shapes i j s

/-! ### The two commands -/

/-- R15: ADD EXTRA's body where R14 and R15 accept it. -/
theorem addExtraBody_accepted {slot : Byte} {kind count : Nat} {i : Fin 4} {t : Trip} {s : State}
    (hi : slotArg slot = some i) (ht : s.slot i = some t) (hk : 1 ≤ kind ∧ kind ≤ 8) (hc : 1 ≤ count ∧ count ≤ 9)
    (ha : (s.store.active.extraKind kind).amount ≠ 0) (hs : t.state = .running ∨ t.state = .paused ∨ t.state = .stopped)
    (hm : extraCount kind t.extras + count ≤ (s.store.active.extraKind kind).maximum)
    (hd : t.totalDue + count * (s.store.active.extraKind kind).amount ≤ dueMax) :
    addExtraBody slot kind count s =
      ok (extraResponse kind (t.addExtra kind count (s.store.active.extraKind kind).amount))
        (s.addExtra i (t.addExtra kind count (s.store.active.extraKind kind).amount)) := by
  have harg : extraArgBad s.store.active kind count = false := by simp [extraArgBad, within, hk, hc, ha]
  have hst : t.state ≠ .settling ∧ t.state ≠ .settled := by rcases hs with h | h | h <;> simp [h]
  rw [addExtraBody, withSlot_occupied hi ht, harg, if_neg Bool.false_ne_true, if_neg hst.1, if_neg hst.2,
    if_neg (Nat.not_lt.2 hm), if_neg (Nat.not_lt.2 hd)]

/-- R16: CANCEL EXTRA's body where R16 accepts it. -/
theorem cancelExtraBody_accepted {slot : Byte} {kind : Nat} {i : Fin 4} {t : Trip} {s : State}
    (hi : slotArg slot = some i) (ht : s.slot i = some t) (hk : 1 ≤ kind ∧ kind ≤ 8)
    (hs : t.state = .running ∨ t.state = .paused ∨ t.state = .stopped) (he : ∃ e ∈ t.extras, e.kind = kind) :
    cancelExtraBody slot kind s =
      ok (extraResponse kind (t.cancelExtra kind (s.store.active.extraKind kind).amount))
        ((s.putSlot i (some (t.cancelExtra kind (s.store.active.extraKind kind).amount))).repostDue
          (t.cancelExtra kind (s.store.active.extraKind kind).amount)) := by
  have harg : within 1 8 kind = true := by simp [within, hk]
  have hst : t.state ≠ .settling ∧ t.state ≠ .settled := by rcases hs with h | h | h <;> simp [h]
  have hin : ¬ t.extras.all (fun e => e.kind != kind) = true := by simpa using he
  rw [cancelExtraBody, withSlot_occupied hi ht, harg, if_neg (by simp), if_neg hst.1, if_neg hst.2, if_neg hin]

/-- Settles O22: the bodies where they accept, with the sign kept as the fare's shape is; and the list operations by
induction on the entries before the kind's own. -/
theorem extrasMoveTheDue : Obligations.ExtrasMoveTheDue := by
  refine ⟨?_, ?_, ?_, fun kind n extras h => addExtra_absent n h⟩
  · rintro slot kind count i t u amount s h hi ht rfl hk1 hk8 hc1 hc9 ha hs hm hd rfl
    refine ⟨extraCount_addExtra .., congrArg Host.Outcome.next ?_⟩
    refine (takeCommand_followed h (addExtraBody_accepted hi ht ⟨hk1, hk8⟩ ⟨hc1, hc9⟩ ha hs hm hd)
      (((h.1.2.putSlot ht (u := t.addExtra kind.toNat count.toNat _) rfl).holdWarning i).repostDue _)).trans ?_
    rw [← extraCount_addExtra]
    rfl
  · rintro slot kind i t u s h hi ht hk1 hk8 hs he rfl
    have hf := h.1.2.putSlot ht (u := t.cancelExtra kind.toNat (s.store.active.extraKind kind.toNat).amount) rfl
    have hc := takeCommand_followed (args := 2) h (cancelExtraBody_accepted hi ht ⟨hk1, hk8⟩ hs he) (hf.repostDue _)
    exact congrArg Host.Outcome.next hc
  · intro kind n before after e he hb
    refine ⟨?_, ?_, fun hc => ?_, fun hc => ?_, fun ha => ?_⟩
    · rw [extraCount_append _ hb]
      simp [extraCount, he]
    · rw [addExtra_append n _ hb]
      simp [addExtra, he]
    · rw [cancelExtra_append _ hb]
      simp [cancelExtra, he, Nat.not_le.2 hc]
    · rw [cancelExtra_append _ hb]
      simp [cancelExtra, he, hc]
    · rw [cancelExtra_append _ hb, extraCount_append _ hb, extraCount_append _ hb, extraCount_cancelExtra_cons he ha]
      simp [extraCount, he]

end Sys2Proof.Machine
end

section
/-! PROOFS. The settlement of a fare by the driver (O28) and by card, and the return of a card payment (O32). -/

namespace Sys2Proof.Machine

/-! ### Unbinding (R23) -/

/-- R23: the stations of a set returned to IDLE leave the path, and each of them alone has its line changed. -/
theorem Intercom.unbindMembers_spec (g : StationSet) (c : Intercom) :
    (g.members.foldl (fun c x => c.unbindOne x) c).path = c.path
      ∧ (g.members.foldl (fun c x => c.unbindOne x) c).connectionTimer = c.connectionTimer
      ∧ (g.members.foldl (fun c x => c.unbindOne x) c).talkTimer = c.talkTimer
      ∧ ∀ y, (g.members.foldl (fun c x => c.unbindOne x) c).line y
          = if g.has y then { c.line y with state := .idle, privacy := false, callTimer := 0, deferred := false }
            else c.line y := by
  cases g with
  | empty => exact ⟨rfl, rfl, rfl, fun _ => rfl⟩
  | left => exact ⟨rfl, rfl, rfl, fun y => by cases y <;> rfl⟩
  | right => exact ⟨rfl, rfl, rfl, fun y => by cases y <;> rfl⟩
  | both => exact ⟨rfl, rfl, rfl, fun y => by cases y <;> rfl⟩

/-- R23: the path is LINKED within a set when, and only when, it is LINKED to one of its stations. -/
theorem Intercom.linkedWithin_iff {c : Intercom} {g : StationSet} :
    c.linkedWithin g = true ↔ ∃ x, c.path = .linked x ∧ g.has x = true := by
  unfold Intercom.linkedWithin
  cases c.path <;> simp

/-- R23: with no path LINKED within the set, unbinding changes the lines of its stations alone. -/
theorem Intercom.leavesUnbound_of_not_linked {c : Intercom} {g : StationSet} (h : c.linkedWithin g ≠ true) :
    LeavesUnbound g c (c.unbind g) := by
  obtain ⟨hp, hk, ht, hl⟩ := Intercom.unbindMembers_spec g c
  rw [Intercom.unbind, if_neg h]
  refine ⟨fun x hx => ?_, fun x hx => ?_, fun x hc hx => ?_, fun _ => ⟨hp, hk, ht⟩⟩
  · simp [hl, hx]
  · simp [hl, hx]
  · exact absurd (Intercom.linkedWithin_iff.2 ⟨x, hc, hx⟩) h

/-- R23, R127: with the path LINKED within the set, the path is freed, which clears the deferred mark of CALLING lines. -/
theorem Intercom.leavesUnbound_of_linked {c : Intercom} {g : StationSet} (h : c.linkedWithin g = true) :
    LeavesUnbound g c (c.unbind g) := by
  obtain ⟨-, -, -, hl⟩ := Intercom.unbindMembers_spec g c
  obtain ⟨fp, fk, -, fl⟩ := Intercom.freePath_spec (g.members.foldl (fun c x => c.unbindOne x) c)
  rw [Intercom.unbind, if_pos h]
  refine ⟨fun x hx => ?_, fun x hx => ?_, fun _ _ _ => ⟨fp, fk⟩, fun hn => ?_⟩
  · simp [fl, hl, hx]
  · simp only [fl, hl, hx, Bool.false_eq_true, if_false]
    split <;> exact ⟨rfl, rfl, rfl, rfl, rfl⟩
  · obtain ⟨x, hc, hx⟩ := Intercom.linkedWithin_iff.1 h
    exact absurd hx (by simp [hn x hc])

/-- R23: what unbinding leaves of the intercom. -/
theorem Intercom.leavesUnbound (g : StationSet) (c : Intercom) : LeavesUnbound g c (c.unbind g) := by
  by_cases h : c.linkedWithin g = true
  · exact Intercom.leavesUnbound_of_linked h
  · exact Intercom.leavesUnbound_of_not_linked h

/-! ### The shift's money and counts -/

/-- R113, R163: the money of a settlement leaves the counts of settlements. -/
theorem Shift.creditMoney_counts (m : Method) (t : Trip) (tip : Nat) (sh : Shift) :
    (sh.creditMoney m t tip).cardSettlements = sh.cardSettlements
      ∧ (sh.creditMoney m t tip).cashSettlements = sh.cashSettlements
      ∧ (sh.creditMoney m t tip).unpaidSettlements = sh.unpaidSettlements := by
  unfold Shift.creditMoney
  dsimp only
  split
  · cases m <;> exact ⟨rfl, rfl, rfl⟩
  · exact ⟨rfl, rfl, rfl⟩

/-- R110: the count of card settlements beside the money. -/
theorem Shift.countCard (m : Method) (t : Trip) (tip : Nat) (sh : Shift) :
    (sh.creditMoney m t tip).countSettlement .card
      = { sh.creditMoney m t tip with cardSettlements := satAdd sh.cardSettlements 1 } := by
  rw [← (Shift.creditMoney_counts m t tip sh).1]
  rfl

/-- R116: the count of cash settlements beside the money. -/
theorem Shift.countCash (m : Method) (t : Trip) (tip : Nat) (sh : Shift) :
    (sh.creditMoney m t tip).countSettlement .cash
      = { sh.creditMoney m t tip with cashSettlements := satAdd sh.cashSettlements 1 } := by
  rw [← (Shift.creditMoney_counts m t tip sh).2.1]
  rfl

/-- R117: the count of unpaid settlements beside the money. -/
theorem Shift.countUnpaid (m : Method) (t : Trip) (tip : Nat) (sh : Shift) :
    (sh.creditMoney m t tip).countSettlement .unpaid
      = { sh.creditMoney m t tip with unpaidSettlements := satAdd sh.unpaidSettlements 1 } := by
  rw [← (Shift.creditMoney_counts m t tip sh).2.2]
  rfl

/-! ### RECORD CASH and DECLARE UNPAID -/

/-- R118: the link with the RELEASE_HOLD of a HELD hold posted to its station. -/
def Trip.releaseLink (t : Trip) (l : PartitionLink) : PartitionLink :=
  match t.hold with
  | some h => if h.state = .held then l.post h.station (.releaseHold t.number h.reference h.amount) else l
  | none => l

/-- R118: what the settlement by the driver posts, by the fare's hold before it. -/
theorem State.sendHold_settleByDriver (m : Method) (captured tip : Nat) (t : Trip) (s : State) :
    s.sendHold t (t.settleByDriver m captured tip) = s.onLink t.releaseLink := by
  have ha : (t.settleByDriver m captured tip).hold = t.hold.map Hold.sendForRelease := rfl
  have hn : (t.settleByDriver m captured tip).number = t.number := rfl
  cases hh : t.hold with
  | none => simp [State.sendHold, ha, hh, State.onLink, Trip.releaseLink]
  | some h =>
    rw [hh] at ha
    by_cases hd : h.state = .held
    · simp [State.sendHold, ha, hh, hn, Trip.hasHeldHold, hd, Hold.sendForRelease, releaseNotice, State.post,
        Trip.releaseLink, State.onLink]
    · simp [State.sendHold, ha, hh, Trip.hasHeldHold, hd, Hold.sendForRelease, Trip.releaseLink, State.onLink]

/-- R116 to R118: the settlement by the driver, block by block. -/
theorem State.settleByDriver_eq (i : Fin 4) (t : Trip) (m : Method) (captured tip : Nat) (s : State) :
    s.settleByDriver i t m captured tip =
      { s with
        slots := s.slots.set i (some (t.settleByDriver m captured tip))
        shift := s.shift.map (fun sh => (sh.creditMoney m t tip).countSettlement m)
        ic := s.ic.unbind t.stations
        link := t.releaseLink s.link } := by
  rw [State.settleByDriver, State.sendHold_settleByDriver]
  rfl

/-- R116: RECORD CASH's body on a STOPPED fare. -/
theorem recordCashBody_stopped {slot : Byte} {tip : Nat} {i : Fin 4} {t : Trip} {s : State}
    (hi : slotArg slot = some i) (ht : s.slot i = some t) (hs : t.state = .stopped) (htip : tip ≤ cashTipMax) :
    recordCashBody slot tip s = ok (tripDue t ++ le4 (t.totalDue + tip))
      ((s.settleByDriver i t .cash (t.totalDue + tip) tip).onIc (·.chimeAll .paid t.stations)) := by
  rw [recordCashBody, withSlot_occupied hi ht, if_neg (Nat.not_lt.2 htip), if_neg (by simp [hs]), if_neg (by simp [hs])]

/-- R117: DECLARE UNPAID's body on a STOPPED fare. -/
theorem declareUnpaidBody_stopped {slot : Byte} {i : Fin 4} {t : Trip} {s : State} (hi : slotArg slot = some i)
    (ht : s.slot i = some t) (hs : t.state = .stopped) :
    declareUnpaidBody slot s = ok (tripDue t) (s.settleByDriver i t .unpaid 0 0) := by
  rw [declareUnpaidBody, withSlot_occupied hi ht, if_neg (by simp [hs]), if_neg (by simp [hs])]

/-- Settles O28: the two bodies on a STOPPED fare, block by block. -/
theorem driverSettlesTheFare : Obligations.DriverSettlesTheFare := by
  refine ⟨?_, ?_, Intercom.leavesUnbound⟩
  · rintro slot tip i t u s h hi ht hs htip rfl
    refine congrArg Host.Outcome.next ((takeCommand_served h (recordCashBody_stopped hi ht hs htip)).trans ?_)
    rw [State.settleByDriver_eq, funext (Shift.countCash .cash t tip.toNat)]
    rfl
  · rintro slot i t u s h hi ht hs rfl
    refine congrArg Host.Outcome.next ((takeCommand_served h (declareUnpaidBody_stopped hi ht hs)).trans ?_)
    rw [State.settleByDriver_eq, funext (Shift.countUnpaid .unpaid t 0)]
    rfl

/-! ### PAY RESULT -/

/-- R186: a message taken in ACTIVE whose effect leaves the sign as it follows has that effect alone. -/
theorem takeMessage_followed {body : State → State} {s u : State} (h : Awake s) (hb : body s = u) (hu : SignFollows u) :
    takeMessage body s = u := by
  rw [takeMessage, if_pos h.1, hb, State.followSign_of_follows hu]

/-- R103: a message that names a fare of its station is taken on its record. -/
theorem withFare_found {x : Station} {kind : Byte} {n : Nat} {s : State} {f : Fin 4 → Trip → State} {i : Fin 4} {t : Trip}
    (hf : s.findTrip n = some i) (ht : s.slot i = some t) (hx : t.stations.has x = true) :
    withFare x kind n s f = f i t := by
  simp [withFare, hf, ht, hx]

/-- R109: PAY RESULT that names a fare of its station is taken by its outcome on the record. -/
theorem payResultBody_found {x : Station} {n : Nat} {outcome : Byte} {o : PayOutcome} {captured tip reference : Nat}
    {s : State} {i : Fin 4} {t : Trip} (ho : outcomeArg outcome = some o) (hr : reference ≤ referenceMax)
    (hf : s.findTrip n = some i) (ht : s.slot i = some t) (hx : t.stations.has x = true) :
    payResultBody x n outcome captured tip reference s = payResultOn x o captured tip reference i t s := by
  rw [payResultBody, ho]
  dsimp only
  rw [if_neg (Nat.not_lt.2 hr), withFare_found hf ht hx]

/-- R109: a SETTLING fare is settled by no card yet. -/
theorem Trip.not_cardSettled_of_settling {t : Trip} (h : t.state = .settling) : t.isCardSettled = false := by
  simp [Trip.isCardSettled, h]

section
variable {x : Station} {captured tip reference : Nat} {i : Fin 4} {t : Trip} {s : State}

/-- R110: an approved result on a SETTLING fare whose captured amount is not the total due with the tip. -/
theorem payResultOn_badAmount (h : t.state = .settling) (hc : captured ≠ t.totalDue + tip) :
    payResultOn x .approved captured tip reference i t s = s.deny x kindPayResult .badAmount (some t) := by
  simp [payResultOn, Trip.not_cardSettled_of_settling h, h, hc]

/-- R110: an approved result on a SETTLING fare whose tip is over the cap. -/
theorem payResultOn_tipOverCap (h : t.state = .settling) (hc : captured = t.totalDue + tip) (ht : s.tipLimit t < tip) :
    payResultOn x .approved captured tip reference i t s = s.deny x kindPayResult .tipOverCap (some t) := by
  simp [payResultOn, Trip.not_cardSettled_of_settling h, h, hc, ht]

/-- R110: an approved result on a SETTLING fare with its amount and a tip within the cap. -/
theorem payResultOn_approved (h : t.state = .settling) (hc : captured = t.totalDue + tip) (ht : tip ≤ s.tipLimit t) :
    payResultOn x .approved captured tip reference i t s = s.settleByCard x i t reference captured tip := by
  simp [payResultOn, Trip.not_cardSettled_of_settling h, h, hc, Nat.not_lt.2 ht]

/-- R111: a declined result on a SETTLING fare. -/
theorem payResultOn_declined (h : t.state = .settling) :
    payResultOn x .declined captured tip reference i t s = s.payDeclined x i t := by
  simp [payResultOn, Trip.not_cardSettled_of_settling h, h]

/-- R112: a cancelled result on a SETTLING fare. -/
theorem payResultOn_cancelled (h : t.state = .settling) :
    payResultOn x .cancelled captured tip reference i t s = s.payCancelled x i t := by
  simp [payResultOn, Trip.not_cardSettled_of_settling h, h]

end

/-- Notices leave the sign as it follows. -/
theorem SignFollows.postAll {s : State} (h : SignFollows s) (g : StationSet) (n : Notice) : SignFollows (s.postAll g n) :=
  h.of_shapes (by simp) (by simp) (by simp) fun j => congrArg _ (State.postAll_slot g n s j)

/-- R140: a credit to the shift record that keeps the shift's state leaves the sign as it follows. -/
theorem SignFollows.credit {s : State} (h : SignFollows s) {f : Shift → Shift} (hf : ∀ sh, (f sh).state = sh.state) :
    SignFollows (s.credit f) := by
  have ho : (s.credit f).shiftIsOpen = s.shiftIsOpen := by
    unfold State.shiftIsOpen State.credit
    cases s.shift <;> simp [hf]
  exact h.trans (State.deriveSign_of_shapes (s := s.credit f) (t := s) rfl rfl rfl rfl ho fun _ => rfl).symm

/-- R111, R112: a fare returned from SETTLING keeps its shape. -/
theorem Trip.endPayment_shape {t : Trip} (h : t.state = .settling) (a : Attempt) (n : Nat) :
    (t.endPayment a n).shape = t.shape := by
  simp [Trip.shape, Trip.endPayment, h, FareState.isActive]

/-- R111: a declined result leaves the sign as it follows. -/
theorem SignFollows.payDeclined {s : State} (hs : SignFollows s) {x : Station} {i : Fin 4} {t : Trip}
    (ht : s.slot i = some t) (h : t.state = .settling) : SignFollows (s.payDeclined x i t) := by
  have hc := (hs.putSlot ht (Trip.endPayment_shape h .declined 1)).credit
    (f := fun sh => { sh with declines := satAdd sh.declines 1 }) fun _ => rfl
  have hx : SignFollows ((((((s.putSlot i (some (t.endPayment .declined 1))).credit
      (fun sh => { sh with declines := satAdd sh.declines 1 })).raise .paymentDeclined).raise .fare).onIc
      (·.chimeAll .decline t.stations)).accept x kindPayResult t) := hc.of_shapes rfl rfl rfl fun _ => rfl
  exact hx.postAll _ _

/-- R112: a cancelled result leaves the sign as it follows. -/
theorem SignFollows.payCancelled {s : State} (hs : SignFollows s) {x : Station} {i : Fin 4} {t : Trip}
    (ht : s.slot i = some t) (h : t.state = .settling) : SignFollows (s.payCancelled x i t) := by
  have hp := hs.putSlot ht (Trip.endPayment_shape h .cancelled 0)
  have hx : SignFollows (((s.putSlot i (some (t.endPayment .cancelled 0))).raise .fare).accept x kindPayResult t) :=
    hp.of_shapes rfl rfl rfl fun _ => rfl
  exact hx.postAll _ _

/-- Settles O32: the outcome's branch on the SETTLING fare; a refusal or a return leaves the sign as it follows. -/
theorem payResultSettlesOrReturns : Obligations.PayResultSettlesOrReturns := by
  constructor
  · rintro x trip captured tip reference i t u s h hf ht hx hr hs rfl
    have hb := payResultBody_found (captured := captured.toNat) (tip := tip.toNat) (o := .approved) (outcome := 1)
      rfl hr hf ht hx
    refine ⟨fun hc => ?_, fun hc htip => ?_, fun hc htip => ⟨?_, Intercom.leavesUnbound _ _⟩⟩
    · exact congrArg Host.Outcome.next (takeMessage_followed h (hb.trans (payResultOn_badAmount hs hc)) h.2)
    · exact congrArg Host.Outcome.next (takeMessage_followed h (hb.trans (payResultOn_tipOverCap hs hc htip)) h.2)
    · refine congrArg Host.Outcome.next ?_
      rw [takeMessage, if_pos h.1, hb, payResultOn_approved hs hc htip, State.settleByCard,
        funext (Shift.countCard .card t tip.toNat)]
      rfl
  · rintro x trip captured tip reference i t p s h hf ht hx hr hs hp
    have he : ∀ a n, t.endPayment a n = { t with
        state := .stopped, payment := some { p with attempt := a, timer := 0, declines := p.declines + n } } := by
      intro a n; simp [Trip.endPayment, hp]
    constructor
    · have hb := payResultBody_found (captured := captured.toNat) (tip := tip.toNat) (o := .declined) (outcome := 2)
        rfl hr hf ht hx
      have hm := takeMessage_followed h (hb.trans (payResultOn_declined hs)) (h.2.payDeclined ht hs)
      rw [State.payDeclined, he] at hm
      exact congrArg Host.Outcome.next hm
    · have hb := payResultBody_found (captured := captured.toNat) (tip := tip.toNat) (o := .cancelled) (outcome := 3)
        rfl hr hf ht hx
      have hm := takeMessage_followed h (hb.trans (payResultOn_cancelled hs)) (h.2.payCancelled ht hs)
      rw [State.payCancelled, he] at hm
      exact congrArg Host.Outcome.next hm

end Sys2Proof.Machine
end

section
/-! PROOFS. A supply loss and a loss of the battery domain (O57). -/

namespace Sys2Proof.Machine

/-! ### Slot by slot, under one store -/

/-- An operation on each slot in order that changes no other slot and keeps the store leaves in slot `j` what its own part
leaves there. -/
theorem forSlots_slot_store {f : Fin 4 → State → State} (h : ∀ i j s, j ≠ i → (f i s).slot j = s.slot j)
    (hs : ∀ i s, (f i s).store = s.store) (s : State) (j : Fin 4) :
    ∃ u : State, u.slot j = s.slot j ∧ u.store = s.store ∧ (forSlots f s).slot j = (f j u).slot j := by
  unfold forSlots
  fin_cases j
  · exact ⟨s, rfl, rfl, by simp [h 3, h 2, h 1]⟩
  · exact ⟨f 0 s, by simp [h 0], by simp [hs], by simp [h 3, h 2]⟩
  · exact ⟨f 1 (f 0 s), by simp [h 1, h 0], by simp [hs], by simp [h 3]⟩
  · exact ⟨f 2 (f 1 (f 0 s)), by simp [h 2, h 1, h 0], by simp [hs], rfl⟩

/-- R39, R40: the settlement of every slot leaves in slot `j` what its own settlement leaves there. -/
theorem State.settleAll_slot (k : Nat) (s : State) (j : Fin 4) : ∃ u : State, u.slot j = s.slot j ∧ u.store = s.store
    ∧ (forSlots (State.settleSlot k) s).slot j = (u.settleSlot k j).slot j :=
  forSlots_slot_store (fun _ _ u h => State.settleSlot_slot_ne h u) (fun i u => State.settleSlot_store k i u) s j

/-- R25, R40: a supply loss settles each slot, then pauses what it holds. -/
theorem State.pauseAll_slot (s : State) (j : Fin 4) : ∃ u : State, u.slot j = s.slot j ∧ u.store = s.store
    ∧ s.pauseAll.slot j = ((u.settleSlot s.runningCount j).slot j).map (fun t =>
      if t.state = .running then { t with state := .paused, powerPaused := true } else t) := by
  obtain ⟨u, hu, hs, e⟩ := State.settleAll_slot s.runningCount s j
  refine ⟨u, hu, hs, ?_⟩
  rw [← e]
  unfold State.pauseAll
  fin_cases j <;> rfl

/-- R25: a fare that is not RUNNING is kept by a supply loss. -/
theorem State.pauseAll_slot_other {s : State} {j : Fin 4} {v : Trip} (hv : s.slot j = some v) (hr : v.state ≠ .running) :
    s.pauseAll.slot j = some v := by
  obtain ⟨u, hu, -, e⟩ := s.pauseAll_slot j
  rw [e, State.settleSlot_other (hu.trans hv) hr, hu, hv, Option.map_some, if_neg hr]

section
variable {s : State} {j : Fin 4} {v w : Trip} (hv : s.slot j = some v) (hr : v.state = .running)
  (hw : w = settleWindow (s.store.active.tariff v.currentTariff) s.runningCount v)
include hv hr hw

/-- R25, R40, R105: a RUNNING fare whose hold is not warned is settled and paused. -/
theorem State.pauseAll_slot_unwarned (hn : ∀ h, v.hold = some h → ¬ WarnsHold s v w h) :
    s.pauseAll.slot j = some { w with state := .paused, powerPaused := true } := by
  obtain ⟨u, hu, hs, e⟩ := s.pauseAll_slot j
  have hwr : w.state = .running := by rw [hw, (settleWindow_frame ..).1, hr]
  have hn' : ∀ h, v.hold = some h → ¬ WarnsHold u v w h := by
    unfold WarnsHold
    rw [hs]
    exact hn
  rw [e, State.settleSlot_unwarned (hu.trans hv) hr (hs ▸ hw) hn', State.putSlot_slot_self, Option.map_some, if_pos hwr]

/-- R25, R37, R40, R105: a RUNNING fare whose settlement gives the warning is settled with its hold warned, and paused. -/
theorem State.pauseAll_slot_warned {p : Payment} {h : Hold} (hp : v.payment = some p) (hh : p.hold = some h)
    (hd : WarnsHold s v w h) :
    s.pauseAll.slot j = some { w with
      state := .paused, powerPaused := true
      payment := some { p with hold := some { h with warned := true } } } := by
  obtain ⟨u, hu, hs, e⟩ := s.pauseAll_slot j
  have hwr : w.state = .running := by rw [hw, (settleWindow_frame ..).1, hr]
  have hd' : WarnsHold u v w h := by
    unfold WarnsHold at hd ⊢
    rw [hs]
    exact hd
  rw [e, State.settleSlot_warned (hu.trans hv) hr (hs ▸ hw) hp hh hd']
  refine (congrArg (Option.map _) (State.putSlot_slot_self j _ u)).trans ?_
  rw [Option.map_some, if_pos hwr]

end

/-- R105: the hold warning check leaves the level of DRST. -/
theorem State.holdWarning_drstLow (i : Fin 4) (s : State) : (s.holdWarning i).dash.drstLow = s.dash.drstLow := by
  rcases State.holdWarning_cases i s with e | ⟨t, h, -, -, -, e⟩ <;> rw [e]
  rfl

/-- R39: the settlement of a window leaves the level of DRST. -/
theorem State.settleSlot_drstLow (k : Nat) (i : Fin 4) (s : State) :
    (s.settleSlot k i).dash.drstLow = s.dash.drstLow := by
  unfold State.settleSlot
  split
  · rfl
  · split
    · unfold State.engine
      split
      · rfl
      · exact State.holdWarning_drstLow i _
    · rfl

/-- R175: the pause of every fare leaves the level of DRST. -/
theorem State.pauseAll_drstLow (s : State) : s.pauseAll.dash.drstLow = s.dash.drstLow := by
  simp [State.pauseAll, forSlots, powerPause, State.settleSlot_drstLow]

/-! ### The sign outside ACTIVE -/

/-- R140: outside ACTIVE a sign that follows is BLANK. -/
theorem SignFollows.blank {s : State} (h : SignFollows s) (hp : s.supply.power ≠ .active) : s.sign.shown = .blank :=
  h.trans (if_pos hp)

/-- R141: the derivation of the sign leaves the alert switch tracker and the alert latch. -/
theorem State.followSign_inputs (s : State) :
    s.followSign.sign.tracker = s.sign.tracker ∧ s.followSign.sign.latch = s.sign.latch := by
  unfold State.followSign
  split
  · exact ⟨rfl, rfl⟩
  · simp only [State.onSign, Sign.change]
    split <;> exact ⟨rfl, rfl⟩

/-! ### The loss, block by block -/

/-- R175: a supply loss, block by block, with the sign derived again at its end. -/
theorem State.loseSupply_eq (s : State) :
    s.loseSupply = State.followSign { s with
      slots := s.pauseAll.slots
      store := s.store.interrupt
      dash := s.pauseAll.dash.lose
      supply := s.supply.lose
      link := s.pauseAll.link.emptied
      dist := s.dist.lose
      ic := s.ic.silent
      sign := s.sign.lose } := by
  unfold State.loseSupply
  congr 1
  simp [State.onStore, State.onDash, State.onSupply, State.onLink, State.onDist, State.onIc, State.onSign]

/-- R175: the stop of every chime leaves the lines but their fare chimes. -/
theorem Intercom.silent_line (c : Intercom) (x : Station) : c.silent.line x = { c.line x with fareChime := none } := by
  cases x <;> rfl

/-- Settles O57: the loss block by block; its slots are those of the settlement and the pause, slot by slot. -/
theorem supplyLossPausesAndKeeps : Obligations.SupplyLossPausesAndKeeps := by
  refine ⟨fun s hp => congrArg Host.Outcome.next (if_pos hp), fun s hp => ?_, fun s => rfl⟩
  refine ⟨s.loseSupply, congrArg Host.Outcome.next (if_neg hp), ?_⟩
  rw [State.loseSupply_eq]
  have hslot : ∀ (u : State) (i : Fin 4), u.slots = s.pauseAll.slots → u.followSign.slot i = s.pauseAll.slot i :=
    fun u i h => State.slot_congr ((State.followSign_slots u).trans h) i
  refine ⟨by simp [Supply.lose], ?_, ?_, ?_, by simp [Store.interrupt], ?_, ?_, ?_, by simp [Distance.lose],
    ?_, by simp [PartitionLink.emptied], by simp [Intercom.silent, Intercom.onLines],
    by simp [Intercom.silent, Intercom.onLines], ?_, by simp, by simp, by simp, by simp⟩
  · intro i v hv hr
    exact (hslot _ i (by rfl)).trans (State.pauseAll_slot_other hv hr)
  · intro i v hv hr hh
    exact (hslot _ i (by rfl)).trans (State.pauseAll_slot_unwarned hv hr rfl (by simp [hh]))
  · intro i v w p h hv hr hp hh hw
    have hvh : v.hold = some h := by simp [Trip.hold, hp, hh]
    refine ⟨fun hn => ?_, fun hd => ?_⟩
    · refine (hslot _ i (by rfl)).trans (State.pauseAll_slot_unwarned hv hr hw fun g hg => ?_)
      rw [hvh] at hg
      cases hg
      exact hn
    · exact (hslot _ i (by rfl)).trans (State.pauseAll_slot_warned hv hr hw hp hh hd)
  · exact (State.followSign_follows _).blank (by simp [Supply.lose])
  · rw [(State.followSign_inputs _).1]
    rfl
  · rw [(State.followSign_inputs _).2]
    rfl
  · rw [State.followSign_dash]
    simp only [DashLink.lose, DashLink.abandon, State.pauseAll_drstLow]
    rfl
  · intro x
    rw [State.followSign_ic, Intercom.silent_line]

end Sys2Proof.Machine
end

section
/-! PROOFS. The parts of a second rollover as the other blocks see them: the stamp, the fare second, the fare timers, the
intercom's timers, the ignition-off timer, and the events that stay pending (for O60). -/

namespace Sys2Proof.Machine

/-! ### The stamp (R62, R63) -/

/-- R62, R63: the calendar of a rollover, the wrap at the end of the range written out. -/
theorem Calendar.rollover_eq (c : Calendar) :
    (c.setTime (nextSecond c.time)).clearIf (decide (c.time = lastStamp)) =
      if c.time = ⟨2099, 12, 31, 23, 59, 59⟩ then
        { time := ⟨2000, 1, 1, 0, 0, 0⟩, weekday := .saturday, clockSet := false, tariff := none, deciding := none }
      else { c with time := nextSecond c.time, weekday := weekdayOf (nextSecond c.time) } := by
  change _ = if c.time = lastStamp then _ else _
  by_cases h : c.time = lastStamp
  · have hn : nextSecond lastStamp = ⟨2000, 1, 1, 0, 0, 0⟩ := by decide
    have hw : weekdayOf ⟨2000, 1, 1, 0, 0, 0⟩ = .saturday := by decide
    rw [if_pos h, h, hn]
    simp [Calendar.setTime, Calendar.clearIf, Calendar.clear, hw]
  · rw [if_neg h]
    simp [Calendar.setTime, Calendar.clearIf, h]

/-- R62: a rollover's stamp and weekday are those of the next second, through the wrap too. -/
theorem State.tickCalendar_stamp (s : State) :
    s.tickCalendar.cal.time = nextSecond s.cal.time ∧ s.tickCalendar.cal.weekday = weekdayOf (nextSecond s.cal.time) := by
  simp only [State.tickCalendar, State.onCal, Calendar.clearIf]
  split <;> exact ⟨rfl, rfl⟩

/-! ### The fare second (R30) -/

/-- R105: the hold warning check does not read the calendar. -/
theorem State.holdWarning_onCal (i : Fin 4) (f : Calendar → Calendar) (s : State) :
    (s.onCal f).holdWarning i = (s.holdWarning i).onCal f := by
  unfold State.holdWarning
  rw [show (s.onCal f).slot i = s.slot i from rfl]
  cases s.slot i with
  | none => rfl
  | some t =>
    dsimp only
    cases t.hold with
    | none => rfl
    | some h =>
      dsimp only
      rw [show (s.onCal f).store = s.store from rfl]
      split <;> rfl

/-- R30: the credit of a slot does not read the calendar. -/
theorem State.creditSlot_onCal (k : Nat) (i : Fin 4) (f : Calendar → Calendar) (s : State) :
    (s.onCal f).creditSlot k i = (s.creditSlot k i).onCal f := by
  unfold State.creditSlot
  rw [show (s.onCal f).slot i = s.slot i from rfl]
  cases s.slot i with
  | none => rfl
  | some t =>
    dsimp only
    rw [show (s.onCal f).tariffOf t = s.tariffOf t from rfl]
    unfold State.engine
    split
    · split
      · rfl
      · exact State.holdWarning_onCal i f (s.putSlot i _)
    · rfl

/-- R30: the fare second does not read the calendar. -/
theorem State.fareSecond_onCal (f : Calendar → Calendar) (s : State) :
    (s.onCal f).fareSecond = s.fareSecond.onCal f := by
  unfold State.fareSecond
  rw [show (s.onCal f).runningCount = s.runningCount from rfl]
  split
  · rfl
  · simp only [forSlots, State.creditSlot_onCal]
    rfl

/-- R30: the fare second leaves the slots alone that hold no RUNNING fare. -/
theorem State.fareSecond_slot_other {s : State} {j : Fin 4} (h : ∀ v, s.slot j = some v → v.state ≠ .running) :
    s.fareSecond.slot j = s.slot j := by
  unfold State.fareSecond
  split
  · rfl
  · obtain ⟨u, hu, e⟩ := forSlots_slot (f := State.creditSlot s.runningCount)
      (fun i j s h => State.creditSlot_slot_ne h s) s j
    refine e.trans ?_
    rw [← hu]
    unfold State.creditSlot
    cases hv : u.slot j with
    | none => exact hv
    | some v =>
      dsimp only
      rw [if_neg (h v (hu ▸ hv))]
      exact hv

/-- R30: a RUNNING fare is credited by the engine on a state with its slot and its store. -/
theorem State.fareSecond_slot_running {s : State} {j : Fin 4} {v : Trip} (hv : s.slot j = some v)
    (hr : v.state = .running) : ∃ u : State, u.store = s.store ∧ s.fareSecond.slot j
      = (u.engine j v (creditSecond (s.store.active.tariff v.currentTariff) s.runningCount v)).slot j := by
  have hk : s.runningCount ≠ 0 := fun hk => State.runningCount_eq_zero.1 hk j v hv hr
  obtain ⟨u, hu, hs, e⟩ := forSlots_slot_store (f := State.creditSlot s.runningCount)
    (fun i j s h => State.creditSlot_slot_ne h s) (fun i u => State.creditSlot_store _ i u) s j
  refine ⟨u, hs, ?_⟩
  unfold State.fareSecond
  rw [if_neg hk]
  refine e.trans ?_
  unfold State.creditSlot
  rw [hu, hv]
  dsimp only
  rw [if_pos hr, State.tariffOf, hs]

/-- R30: a RUNNING fare stays RUNNING through its second. -/
theorem State.fareSecond_running {s : State} {j : Fin 4} {v : Trip} (hv : s.slot j = some v) (hr : v.state = .running) :
    ∃ w, s.fareSecond.slot j = some w ∧ w.state = .running := by
  obtain ⟨u, -, e⟩ := State.fareSecond_slot_running hv hr
  obtain ⟨w, hw, hs, -⟩ := State.engine_slot j v (creditSecond (s.store.active.tariff v.currentTariff) s.runningCount v) u
  exact ⟨w, e.trans hw, hs.trans ((creditSecond_frame ..).1.trans hr)⟩

/-- R30 to R36: a RUNNING fare with no hold is credited with the second. -/
theorem State.fareSecond_credits {s : State} {j : Fin 4} {v : Trip} (hv : s.slot j = some v) (hr : v.state = .running)
    (hh : v.hold = none) :
    s.fareSecond.slot j = some (creditSecond (s.store.active.tariff v.currentTariff) s.runningCount v) := by
  obtain ⟨u, -, e⟩ := State.fareSecond_slot_running hv hr
  have hc : (creditSecond (s.store.active.tariff v.currentTariff) s.runningCount v).hold = none := by
    rw [Trip.hold, (creditSecond_frame ..).2.2.2.1]
    exact hh
  rw [e, State.engine_unwarned (by simp [hc]), State.putSlot_slot_same]

/-! ### The fare timers (R12, R108) -/

/-- R12, R108: what the fare timers of a rollover make of a record. -/
def Trip.timersTicked (t : Trip) : Trip :=
  Trip.paymentTicked (if t.state = .stopped ∨ t.state = .settling then { t with grace := t.grace.map Grace.tick } else t)

/-- R12, R108: no timer of a fare counts in RUNNING, PAUSED and SETTLED. -/
theorem Trip.timersTicked_other {t : Trip} (h1 : t.state ≠ .stopped) (h2 : t.state ≠ .settling) : t.timersTicked = t := by
  simp [Trip.timersTicked, Trip.paymentTicked, h1, h2]

/-- R12: the grace of a STOPPED fare counts, to 20. -/
theorem Trip.timersTicked_stopped {t : Trip} {g : Grace} (h : t.state = .stopped) (hg : t.grace = some g) :
    t.timersTicked = { t with grace := some { g with count := min (g.count + 1) 20 } } := by
  simp [Trip.timersTicked, Trip.paymentTicked, h, hg, Grace.tick, graceMax]

/-- R12, R108: the grace and the payment timer of a SETTLING fare count. -/
theorem Trip.timersTicked_settling {t : Trip} {g : Grace} {p : Payment} (h : t.state = .settling) (hp : t.payment = some p)
    (hg : t.grace = some g) (ht : 1 < p.timer) :
    t.timersTicked = { t with
      payment := some { p with timer := p.timer - 1 }, grace := some { g with count := min (g.count + 1) 20 } } := by
  simp [Trip.timersTicked, Trip.paymentTicked, h, hg, hp, Grace.tick, graceMax, Trip.paymentOrNew, Nat.not_le.2 ht]

/-- R12, R108: the payment timer of a SETTLING fare expires. -/
theorem Trip.timersTicked_expired {t : Trip} {g : Grace} {p : Payment} (h : t.state = .settling) (hp : t.payment = some p)
    (hg : t.grace = some g) (ht : p.timer ≤ 1) :
    t.timersTicked = { t with
      state := .stopped, payment := some { p with attempt := .timedOut, timer := 0 }
      grace := some { g with count := min (g.count + 1) 20 } } := by
  simp [Trip.timersTicked, Trip.paymentTicked, h, hg, hp, Grace.tick, graceMax, Trip.paymentOrNew, ht, Trip.endPayment]

/-- R12: the graces of a rollover leave every record's state. -/
theorem forGrace_keeps {s : State} {j : Fin 4} {t : Trip} (h : s.slot j = some t) :
    ∃ g, (forSlots graceTick s).slot j = some { t with grace := g } := by
  rw [forGrace_slot, h, Option.map_some]
  split
  · exact ⟨_, rfl⟩
  · exact ⟨t.grace, rfl⟩

/-- R108: a payment timer counts in SETTLING alone. -/
theorem State.paymentTick_other {s : State} {j : Fin 4} (h : ∀ w, s.slot j = some w → w.state ≠ .settling) :
    s.paymentTick j = s := by
  unfold State.paymentTick
  cases hw : s.slot j with
  | none => rfl
  | some w => exact if_neg (h w hw)

/-- R108: with every other fare outside SETTLING, the payment timers of a rollover are that of one slot. -/
theorem forPaymentTick_single {s : State} {i : Fin 4} (h : ∀ j w, j ≠ i → s.slot j = some w → w.state ≠ .settling) :
    forSlots State.paymentTick s = s.paymentTick i := by
  have hs : ∀ j, j ≠ i → s.paymentTick j = s := fun j hj => State.paymentTick_other fun w hw => h j w hj hw
  have hi : ∀ j, j ≠ i → (s.paymentTick i).paymentTick j = s.paymentTick i := fun j hj =>
    State.paymentTick_other fun w hw => h j w hj (by rwa [State.paymentTick_slot, if_neg hj] at hw)
  unfold forSlots
  match i, hs, hi with
  | 0, _, hi => rw [hi 1 (by decide), hi 2 (by decide), hi 3 (by decide)]
  | 1, hs, hi => rw [hs 0 (by decide), hi 2 (by decide), hi 3 (by decide)]
  | 2, hs, hi => rw [hs 0 (by decide), hs 1 (by decide), hi 3 (by decide)]
  | 3, hs, _ => rw [hs 0 (by decide), hs 1 (by decide), hs 2 (by decide)]

/-- Notices posted depend on the link alone. -/
theorem State.postAll_link_congr {s t : State} (h : s.link = t.link) (g : StationSet) (n : Notice) :
    (s.postAll g n).link = (t.postAll g n).link := by
  cases g <;> simp [State.postAll, StationSet.members, State.post, State.onLink, h]

/-- R108: the notices of a rollover's fare timers, where one SETTLING fare alone has its timer expire. -/
theorem State.fareTimers_link_expired {s : State} {i : Fin 4} {v : Trip} (hv : s.slot i = some v)
    (hs : v.state = .settling) (ht : v.paymentOrNew.timer ≤ 1)
    (ho : ∀ j w, j ≠ i → s.slot j = some w → w.state ≠ .settling) :
    s.fareTimers.link = (s.postAll v.stations (.due v.number v.totalDue)).link := by
  obtain ⟨g, hg⟩ := forGrace_keeps hv
  have ho' : ∀ j w, j ≠ i → (forSlots graceTick s).slot j = some w → w.state ≠ .settling := by
    intro j w hj hw
    rw [forGrace_slot, Option.map_eq_some_iff] at hw
    obtain ⟨x, hx, rfl⟩ := hw
    have := ho j x hj hx
    split <;> exact this
  rw [State.fareTimers, forPaymentTick_single ho', State.paymentTick, hg]
  dsimp only
  rw [if_pos hs, if_pos (show (({ v with grace := g } : Trip).paymentOrNew.timer ≤ 1) from ht),
    State.paymentExpires, State.postDue]
  exact State.postAll_link_congr (by rfl) _ _

/-! ### Pending events (R181) -/

/-- Every event pending before is pending after. -/
def KeepsEvents (s t : State) : Prop := ∀ e, s.dash.isPending e = true → t.dash.isPending e = true

theorem KeepsEvents.trans {s t u : State} (a : KeepsEvents s t) (b : KeepsEvents t u) : KeepsEvents s u :=
  fun e h => b e (a e h)

theorem KeepsEvents.of_eq {s t : State} (h : t.dash = s.dash) : KeepsEvents s t := fun _ he => by rwa [h]

/-- R181: an event set is pending, and so is every event that was. -/
theorem DashLink.isPending_raise_of {d : DashLink} {e f : Event} (h : d.isPending f = true ∨ e = f) :
    (d.raise e).isPending f = true := by
  rw [DashLink.isPending_raise]
  rcases h with h | rfl <;> simp [*]

theorem KeepsEvents.of_raise {s t : State} {e : Event} (h : t.dash = s.dash.raise e) : KeepsEvents s t :=
  fun f hf => by rw [h]; exact DashLink.isPending_raise_of (.inl hf)

theorem State.callTick_events (x : Station) (s : State) : KeepsEvents s (s.callTick x) := by
  have h := (State.callTick_eq x s).2.2
  split at h
  · exact .of_raise h
  · exact .of_eq h

theorem State.intercomTick_events (s : State) : KeepsEvents s s.intercomTick :=
  (State.callTick_events .left s).trans ((State.callTick_events .right _).trans (.of_eq rfl))

theorem State.enterStandby_events (s : State) : KeepsEvents s s.enterStandby := fun e h => by
  rw [State.enterStandby, State.followSign_dash]
  exact h

theorem State.ignitionTick_events (s : State) : KeepsEvents s s.ignitionTick := by
  unfold State.ignitionTick State.countIgnitionOff
  split
  · dsimp only
    split
    · exact KeepsEvents.trans (.of_eq rfl) (State.enterStandby_events _)
    · exact .of_eq rfl
  · exact .of_eq rfl

theorem State.evaluate_events (s : State) : KeepsEvents s s.evaluate := by
  have h := s.evaluate_dash
  split at h
  · exact .of_eq h
  · exact .of_raise h

theorem State.minuteTick_events (s : State) : KeepsEvents s s.minuteTick := by
  unfold State.minuteTick
  split
  · exact s.evaluate_events
  · exact .of_eq rfl

theorem State.paymentTick_events (i : Fin 4) (s : State) : KeepsEvents s (s.paymentTick i) := by
  unfold State.paymentTick
  split
  · exact .of_eq rfl
  · split
    · split
      · exact .of_raise (by simp [State.paymentExpires, State.postDue]; rfl)
      · exact .of_eq rfl
    · exact .of_eq rfl

/-- R108: the payment timers of a rollover keep every pending event. -/
theorem forPaymentTick_events (s : State) : KeepsEvents s (forSlots State.paymentTick s) :=
  (((State.paymentTick_events 0 s).trans (State.paymentTick_events 1 _)).trans
    (State.paymentTick_events 2 _)).trans (State.paymentTick_events 3 _)

/-- R108: what a slot's payment timer sets at a rollover stays pending to the end of its payment timers. -/
theorem forPaymentTick_slot_events (s : State) (i : Fin 4) :
    ∃ u : State, u.slot i = s.slot i ∧ KeepsEvents (u.paymentTick i) (forSlots State.paymentTick s) := by
  have hk : ∀ i u, KeepsEvents u (u.paymentTick i) := State.paymentTick_events
  have ho : ∀ i j (u : State), j ≠ i → (u.paymentTick i).slot j = u.slot j := fun i j u h => by
    rw [State.paymentTick_slot, if_neg h]
  match i with
  | 0 => exact ⟨s, rfl, ((hk 1 _).trans (hk 2 _)).trans (hk 3 _)⟩
  | 1 => exact ⟨s.paymentTick 0, ho 0 1 s (by decide), (hk 2 _).trans (hk 3 _)⟩
  | 2 => exact ⟨(s.paymentTick 0).paymentTick 1, by rw [ho 1 2 _ (by decide), ho 0 2 _ (by decide)], hk 3 _⟩
  | 3 => exact ⟨((s.paymentTick 0).paymentTick 1).paymentTick 2,
      by rw [ho 2 3 _ (by decide), ho 1 3 _ (by decide), ho 0 3 _ (by decide)], .of_eq rfl⟩

/-- R108: a payment timer's expiry has FARE pending after the fare timers of the rollover. -/
theorem State.fareTimers_fare_expired {s : State} {i : Fin 4} {v : Trip} (hv : s.slot i = some v)
    (hs : v.state = .settling) (ht : v.paymentOrNew.timer ≤ 1) : s.fareTimers.dash.isPending .fare = true := by
  obtain ⟨g, hg⟩ := forGrace_keeps hv
  obtain ⟨u, hu, hk⟩ := forPaymentTick_slot_events (forSlots graceTick s) i
  refine hk _ ?_
  rw [State.paymentTick, hu, hg]
  dsimp only
  rw [if_pos hs, if_pos (show (({ v with grace := g } : Trip).paymentOrNew.timer ≤ 1) from ht),
    State.paymentExpires, State.postDue, State.postAll_dash]
  exact DashLink.isPending_raise_of (.inr rfl)

theorem State.fareTimers_events (s : State) : KeepsEvents s s.fareTimers :=
  KeepsEvents.trans (.of_eq (by rfl)) (forPaymentTick_events _)

end Sys2Proof.Machine
end

section
/-! PROOFS. A second rollover as a whole: the intercom's timers and the deferred chimes, the shift record, the ignition-off
timer, the close of the second, and the three power states (O60). -/

namespace Sys2Proof.Machine

/-! ### The path's timer (R132, R134) -/

/-- R132: a conversation with seconds left counts one of them. -/
theorem Intercom.pathTicked_linked {c : Intercom} {x : Station} (hp : c.path = .linked x) (ht : 1 < c.connectionTimer) :
    c.pathTicked = { c with connectionTimer := c.connectionTimer - 1 } := by
  simp [Intercom.pathTicked, Intercom.connectionTick, hp, Nat.not_le.2 ht]

/-- R132: a conversation at its last second ends as by CLOSE. -/
theorem Intercom.pathTicked_linked_ends {c : Intercom} {x : Station} (hp : c.path = .linked x)
    (ht : c.connectionTimer ≤ 1) : c.pathTicked = c.close x := by
  simp [Intercom.pathTicked, Intercom.connectionTick, hp, ht]

/-- R134: an announcement with seconds left counts one of them. -/
theorem Intercom.pathTicked_talk {c : Intercom} {g : StationSet} (hp : c.path = .talk g) (ht : 1 < c.talkTimer) :
    c.pathTicked = { c with talkTimer := c.talkTimer - 1 } := by
  simp [Intercom.pathTicked, Intercom.talkTick, hp, Nat.not_le.2 ht]

/-- R134: an announcement at its last second ends as by TALK RELEASE. -/
theorem Intercom.pathTicked_talk_ends {c : Intercom} {g : StationSet} (hp : c.path = .talk g) (ht : c.talkTimer ≤ 1) :
    c.pathTicked = c.freePath := by
  simp [Intercom.pathTicked, Intercom.talkTick, hp, ht]

/-- R127: the freed path leaves each station's state and call timer, and no deferral where there was none. -/
theorem Intercom.freePath_line (c : Intercom) (x : Station) :
    (c.freePath.line x).state = (c.line x).state ∧ (c.freePath.line x).callTimer = (c.line x).callTimer
      ∧ ((c.line x).deferred = false → (c.freePath.line x).deferred = false) := by
  rw [(Intercom.freePath_spec c).2.2.2 x]
  split
  · exact ⟨rfl, rfl, fun _ => rfl⟩
  · exact ⟨rfl, rfl, id⟩

/-- R131: the line of a station after another's conversation was closed or the path's timer counted: the path's timer
touches only the station it is LINKED to. -/
theorem Intercom.pathTicked_line {c : Intercom} {x : Station} (h : c.path ≠ .linked x) :
    (c.pathTicked.line x).state = (c.line x).state ∧ (c.pathTicked.line x).callTimer = (c.line x).callTimer
      ∧ ((c.line x).deferred = false → (c.pathTicked.line x).deferred = false) := by
  cases hp : c.path with
  | free => simp [Intercom.pathTicked, hp]
  | talk g =>
    rcases Nat.lt_or_ge 1 c.talkTimer with ht | ht
    · rw [Intercom.pathTicked_talk hp ht]
      exact ⟨rfl, rfl, id⟩
    · rw [Intercom.pathTicked_talk_ends hp ht]
      exact Intercom.freePath_line c x
  | linked y =>
    rcases Nat.lt_or_ge 1 c.connectionTimer with ht | ht
    · rw [Intercom.pathTicked_linked hp ht]
      exact ⟨rfl, rfl, id⟩
    · have hne : x ≠ y := fun e => h (e ▸ hp)
      have hl : (c.makeIdle y).line x = c.line x := (Intercom.onLine_line ..).trans (if_neg hne)
      rw [Intercom.pathTicked_linked_ends hp ht, Intercom.close, ← hl]
      exact Intercom.freePath_line _ x

/-! ### The deferred chimes (R127) -/

/-- R127: a station's call chime waits to sound: it is CALLING with its chime deferred. -/
def Intercom.waits (c : Intercom) (x : Station) : Prop := c.isCalling x = true ∧ (c.line x).deferred = true

/-- R127: a chime that does not wait is not sounded. -/
theorem Intercom.soundDeferred_idle {c : Intercom} {x : Station} (h : ¬ c.waits x) : c.soundDeferred x = c :=
  if_neg (by simpa [Intercom.waits] using h)

/-- R127: a waiting chime sounds where no tone does. -/
theorem Intercom.soundDeferred_sounds {c : Intercom} {x : Station} (h : c.waits x) (ht : c.tone = none) :
    (c.soundDeferred x).tone = some { station := x, left := 20, queued := none } := by
  rw [Intercom.soundDeferred, if_pos (Bool.and_eq_true_iff.2 h)]
  simp [Intercom.sound, Intercom.onLine, ht, callChimeLength]

/-- R127: a waiting chime is queued behind the other station's tone. -/
theorem Intercom.soundDeferred_queues {c : Intercom} {x : Station} {t : CallTone} (h : c.waits x) (ht : c.tone = some t)
    (hx : t.station ≠ x) : (c.soundDeferred x).tone = some { t with queued := some x } := by
  rw [Intercom.soundDeferred, if_pos (Bool.and_eq_true_iff.2 h)]
  simp [Intercom.sound, Intercom.onLine, ht, hx]

/-- R127: whether R's chime waits is not changed by the sounding of L's. -/
theorem Intercom.waits_right (c : Intercom) : (c.soundDeferred .left).waits .right ↔ c.waits .right := by
  have hl : (c.soundDeferred .left).line .right = c.line .right :=
    ((Intercom.soundDeferred_spec .left c).2.2.2 .right).trans (if_neg (by simp))
  simp only [Intercom.waits, Intercom.isCalling, hl]

/-- R127: the freed path sounds the deferred chimes: L first, R behind it or alone. -/
theorem Intercom.freePath_sounds (c : Intercom) : DeferredChimesSound c c.freePath := by
  let d : Intercom := { c with path := .free, connectionTimer := 0, talkTimer := 0 }
  have hoff : ∀ x, c.isCalling x = false ∨ (c.line x).deferred = false → ¬ d.waits x :=
    fun x h ⟨h1, h2⟩ => h.elim (fun h => Bool.false_ne_true (h.symm.trans h1)) fun h =>
      Bool.false_ne_true (h.symm.trans h2)
  refine ⟨fun x => ?_, fun ht => ⟨fun h1 h2 => ?_, fun h1 h2 h3 => ?_, fun h => ?_⟩⟩
  · rw [(Intercom.freePath_spec c).2.2.2 x, Intercom.isCalling]
    by_cases h : (c.line x).state = .calling <;> simp [h]
  · have hl : (d.soundDeferred .left).tone = _ := Intercom.soundDeferred_sounds ⟨h1, h2⟩ ht
    by_cases hr : c.isCalling .right = true ∧ (c.line .right).deferred = true
    · rw [if_pos hr]
      exact Intercom.soundDeferred_queues ((Intercom.waits_right d).2 hr) hl (by simp)
    · rw [if_neg hr]
      exact (congrArg Intercom.tone (Intercom.soundDeferred_idle (mt (Intercom.waits_right d).1 hr))).trans hl
  · have hl : d.soundDeferred .left = d := Intercom.soundDeferred_idle (hoff .left h1)
    rw [Intercom.freePath, hl]
    exact Intercom.soundDeferred_sounds (c := d) ⟨h2, h3⟩ ht
  · have hl : d.soundDeferred .left = d := Intercom.soundDeferred_idle (hoff .left (h .left))
    have hr : d.soundDeferred .right = d := Intercom.soundDeferred_idle (hoff .right (h .right))
    rw [Intercom.freePath, hl, hr]
    exact ht

/-- R127: what sounds depends on who is CALLING, what is deferred, and the tone. -/
theorem DeferredChimesSound.congr {b c d : Intercom} (h : DeferredChimesSound b d) (hc : ∀ x, c.isCalling x = b.isCalling x)
    (hd : ∀ x, (c.line x).deferred = (b.line x).deferred) (ht : c.tone = b.tone) : DeferredChimesSound c d := by
  unfold DeferredChimesSound at h ⊢
  simpa only [hc, hd, ht] using h

/-! ### The close of the second (R53) -/

/-- R53: the close of a second with the overspeed flag counts an overspeed second and has OVERSPEED pending. -/
theorem State.closeSecond_overspeed {s : State} (h : s.dist.overspeed = true) :
    s.closeSecond = { s with
      dist := { s.dist with window := 0, overspeed := false }
      dash := s.dash.raise .overspeed
      shift := s.shift.map (fun sh => { sh with overspeedSeconds := satAdd sh.overspeedSeconds 1 }) } := by
  rw [State.closeSecond, if_pos h]
  rfl

/-- R53: the close of a second without the overspeed flag empties the global window. -/
theorem State.closeSecond_slow {s : State} (h : s.dist.overspeed = false) :
    s.closeSecond = { s with dist := { s.dist with window := 0, overspeed := false } } := by
  rw [State.closeSecond, if_neg (by simp [h])]
  rfl

/-- R53: the close of a second empties the global window and clears the overspeed flag. -/
theorem State.closeSecond_dist (s : State) : s.closeSecond.dist = { s.dist with window := 0, overspeed := false } := by
  cases h : s.dist.overspeed
  · rw [State.closeSecond_slow h]
  · rw [State.closeSecond_overspeed h]

/-! ### The minute's evaluation (R76) -/

/-- R76: the evaluations of a minute on states of one calendar and one store leave one calendar, and equal records of
equal records. -/
theorem State.minuteTick_congr {s t : State} (hc : s.cal = t.cal) (hs : s.store = t.store) :
    s.minuteTick.cal = t.minuteTick.cal ∧ ∀ j, s.slot j = t.slot j → s.minuteTick.slot j = t.minuteTick.slot j := by
  unfold State.minuteTick
  rw [hc]
  split
  · exact State.evaluate_congr hc (by simp only [State.scheduleImage, hc, hs]) (by rw [hs])
  · exact ⟨hc, fun _ h => h⟩

/-- R41: an evaluation leaves a slot alone that holds neither a RUNNING nor a PAUSED fare. -/
theorem State.minuteTick_slot_other {s : State} {j : Fin 4}
    (h : ∀ v, s.slot j = some v → v.state ≠ .running ∧ v.state ≠ .paused) : s.minuteTick.slot j = s.slot j := by
  unfold State.minuteTick
  split
  · rcases State.evaluate_cases s with e | ⟨d, e⟩ | ⟨n, d, -, e⟩ <;> rw [e]
    · rfl
    · rw [State.forSwitch_slot]
      refine (Option.map_congr fun v hv => ?_).trans (congrFun Option.map_id _)
      exact if_neg fun hr => hr.1.elim (h v hv).1 (h v hv).2
  · rfl

/-- R62: an evaluation leaves the stamp and the weekday. -/
theorem State.minuteTick_stamp (s : State) :
    s.minuteTick.cal.time = s.cal.time ∧ s.minuteTick.cal.weekday = s.cal.weekday := by
  unfold State.minuteTick
  split
  · rcases State.evaluate_cases s with e | ⟨d, e⟩ | ⟨n, d, -, e⟩ <;> rw [e]
    · exact ⟨rfl, rfl⟩
    · exact ⟨rfl, rfl⟩
    · exact ⟨rfl, rfl⟩
  · exact ⟨rfl, rfl⟩

/-- R77: an evaluation that names another tariff has TARIFF_SWITCH pending. -/
theorem State.minuteTick_switches {s : State} (h : s.minuteTick.cal.tariff ≠ s.cal.tariff) :
    s.minuteTick.dash.isPending .tariffSwitch = true := by
  unfold State.minuteTick at h ⊢
  split
  · rename_i hm
    rw [if_pos hm] at h
    rw [State.evaluate_dash, if_neg h]
    exact DashLink.isPending_raise_of (.inr rfl)
  · rename_i hm
    rw [if_neg hm] at h
    exact absurd rfl h

/-- R140: an evaluation leaves the sign as it follows. -/
theorem SignFollows.minuteTick {s : State} (h : SignFollows s) : SignFollows s.minuteTick := by
  unfold State.minuteTick
  split
  · rw [SignFollows, State.evaluate_sign, State.evaluate_deriveSign]
    exact h
  · exact h

/-! ### The shift record (R128, R157) -/

/-- What the rollover's blocks before the intercom keep of a shift record: its state, break seconds and missed calls. -/
def Shift.kept (sh : Shift) : ShiftState × Nat × Nat := (sh.state, sh.breakSeconds, sh.missedCalls)

/-- R30: the fare second counts the hired seconds alone. -/
theorem State.fareSecond_shift_kept (s : State) : s.fareSecond.shift.map Shift.kept = s.shift.map Shift.kept := by
  unfold State.fareSecond
  split
  · rfl
  · simp only [State.credit, Option.map_map, forSlots, State.creditSlot_shift]
    rfl

/-- R53: the close of the second counts the overspeed seconds alone. -/
theorem State.closeSecond_shift_kept (s : State) : s.closeSecond.shift.map Shift.kept = s.shift.map Shift.kept := by
  cases h : s.dist.overspeed
  · rw [State.closeSecond_slow h]
  · rw [State.closeSecond_overspeed h, Option.map_map]
    rfl

/-- R128: the station's call ends unanswered at this rollover. -/
def Intercom.misses (c : Intercom) (x : Station) : Prop := c.isCalling x = true ∧ (c.line x).callTimer ≤ 1

/-- R128: a missed call counted in the shift record. -/
def Shift.missCall (sh : Shift) : Shift := { sh with missedCalls := satAdd sh.missedCalls 1 }

/-- R128: the counts of missed calls saturate. -/
theorem satAdd_satAdd (a : Nat) : satAdd (satAdd a 1) 1 = satAdd a 2 := by
  unfold satAdd
  omega

/-- R128: a rollover at one call timer counts its missed call. -/
theorem State.callTick_shift {x : Station} {s : State} :
    (s.ic.misses x → (s.callTick x).shift = s.shift.map Shift.missCall)
      ∧ (¬ s.ic.misses x → (s.callTick x).shift = s.shift) := by
  refine ⟨fun h => ?_, fun h => ?_⟩
  · rw [(State.callTick_eq x s).2.1]
    exact if_pos h
  · rw [(State.callTick_eq x s).2.1]
    exact if_neg h

/-- R128: L's call timer has no part in R's. -/
theorem State.callTick_left_misses_right (s : State) : (s.callTick .left).ic.misses .right ↔ s.ic.misses .right := by
  have hl : (s.callTick .left).ic.line .right = s.ic.line .right := by
    rw [(State.callTick_eq .left s).1, (Intercom.callTicked_spec .left s.ic).2.2.2.2 .right, if_neg (by simp)]
  simp only [Intercom.misses, Intercom.isCalling, hl]

/-- R128: what a rollover at both call timers makes of the shift record. -/
theorem State.intercomTick_shift {s : State} {sh : Shift} (h : s.shift = some sh) :
    ∃ sh', s.intercomTick.shift = some sh' ∧ sh'.state = sh.state ∧ sh'.breakSeconds = sh.breakSeconds
      ∧ ∀ x, s.ic.misses x → (¬ s.ic.misses x.other → sh'.missedCalls = satAdd sh.missedCalls 1)
        ∧ (s.ic.misses x.other → sh'.missedCalls = satAdd sh.missedCalls 2) := by
  have hr := State.callTick_left_misses_right s
  have hlt := (State.callTick_shift (x := .left) (s := s))
  have hrt := (State.callTick_shift (x := .right) (s := s.callTick .left))
  have hi : s.intercomTick.shift = ((s.callTick .left).callTick .right).shift := rfl
  by_cases hl : s.ic.misses .left
  · have hL := hlt.1 hl
    by_cases hR : s.ic.misses .right
    · have e := hrt.1 (hr.2 hR)
      rw [hL, h] at e
      refine ⟨_, hi.trans e, rfl, rfl, fun x _ => ⟨fun ho => ?_, fun _ => satAdd_satAdd _⟩⟩
      cases x
      · exact absurd hR ho
      · exact absurd hl ho
    · have e := hrt.2 (mt hr.1 hR)
      rw [hL, h] at e
      refine ⟨_, hi.trans e, rfl, rfl, fun x hx => ⟨fun _ => rfl, fun ho => ?_⟩⟩
      cases x
      · exact absurd ho hR
      · exact absurd hx hR
  · have hL := hlt.2 hl
    by_cases hR : s.ic.misses .right
    · have e := hrt.1 (hr.2 hR)
      rw [hL, h] at e
      refine ⟨_, hi.trans e, rfl, rfl, fun x hx => ⟨fun _ => rfl, fun ho => ?_⟩⟩
      cases x
      · exact absurd hx hl
      · exact absurd ho hl
    · have e := hrt.2 (mt hr.1 hR)
      rw [hL, h] at e
      refine ⟨_, hi.trans e, rfl, rfl, fun x hx => ?_⟩
      cases x
      · exact absurd hx hl
      · exact absurd hx hR

/-! ### The ignition-off timer (R171) -/

/-- R171: whether any fare is active is decided slot by slot. -/
theorem State.anyActive_congr {s t : State} (h : ∀ j, activeSlot (s.slot j) = activeSlot (t.slot j)) :
    s.anyActive = t.anyActive := by
  have h0 := h 0
  have h1 := h 1
  have h2 := h 2
  have h3 := h 3
  simp only [State.slot, Four.get] at h0 h1 h2 h3
  simp [State.anyActive, Four.list, h0, h1, h2, h3]

/-- R171: with the ignition ON the timer does not count. -/
theorem State.ignitionTick_on {s : State} (h : s.supply.ignitionOn = true) : s.ignitionTick = s :=
  if_neg (by simp [h])

/-- R171: the rollover does not bring STANDBY: the ignition is ON, a fare is active, the store is busy, or the timer stays
below 300. -/
def State.staysAwake (s : State) : Prop :=
  s.supply.ignitionOn = true ∨ s.anyActive = true ∨ s.store.state ≠ .idle ∨ s.supply.offTimer < 299

/-- R171: with the ignition OFF the timer counts, where it does not bring STANDBY. -/
theorem State.ignitionTick_counts {s : State} (hp : s.supply.power = .active) (ho : s.supply.ignitionOn = false)
    (h : s.staysAwake) :
    s.ignitionTick = { s with supply := { s.supply with offTimer := nextOffTimer s.anyActive s.supply.offTimer } } := by
  rw [State.ignitionTick, if_pos ⟨hp, ho⟩]
  refine if_neg fun hd => ?_
  simp only [State.standbyIsDue, Bool.and_eq_true, Bool.not_eq_true', decide_eq_true_eq] at hd
  obtain ⟨⟨ha, ht⟩, hb⟩ := hd
  have ha : s.anyActive = false := ha
  have hb : s.store.busy = false := hb
  have ht : 300 ≤ nextOffTimer s.anyActive s.supply.offTimer := ht
  rw [ha, nextOffTimer, if_neg (by simp)] at ht
  rcases h with h | h | h | h
  · simp [ho] at h
  · simp [ha] at h
  · simp [Store.busy] at hb
    exact h hb
  · have : min (s.supply.offTimer + 1) offTimerMax ≤ s.supply.offTimer + 1 := Nat.min_le_left ..
    omega

/-- R171, R173: the timer brought to 300 with no fare active and the store IDLE enters STANDBY. -/
theorem State.ignitionTick_sleeps {s : State} (hp : s.supply.power = .active) (ho : s.supply.ignitionOn = false)
    (ha : s.anyActive = false) (hs : s.store.state = .idle) (ht : 299 ≤ s.supply.offTimer) :
    s.ignitionTick = State.enterStandby { s with supply := { s.supply with offTimer := 300 } } := by
  have hn : nextOffTimer s.anyActive s.supply.offTimer = 300 := by
    simp [nextOffTimer, ha, offTimerMax]
    omega
  rw [State.ignitionTick, if_pos ⟨hp, ho⟩, State.countIgnitionOff, State.onSupply, hn]
  refine if_pos ?_
  simp only [State.standbyIsDue, Bool.and_eq_true, Bool.not_eq_true']
  exact ⟨⟨ha, decide_eq_true (Nat.le_refl 300)⟩, by simp [Store.busy, hs]⟩

/-- R173: standby entry, as the supply unit, the intercom and the link see it. -/
theorem State.enterStandby_blocks (s : State) :
    s.enterStandby.supply = s.supply.sleep ∧ s.enterStandby.ic = s.ic.allIdle ∧ s.enterStandby.link = s.link.emptied := by
  simp [State.enterStandby, State.onSupply, State.onIc, State.onLink, State.onDash, State.onSign]

/-- R171: the ignition-off timer's rollover brings no HOLDOVER. -/
theorem State.ignitionTick_not_holdover {s : State} (h : s.supply.power ≠ .holdover) :
    s.ignitionTick.supply.power ≠ .holdover := by
  unfold State.ignitionTick State.countIgnitionOff
  split
  · dsimp only
    split
    · rw [(State.enterStandby_blocks _).1]
      simp [Supply.sleep]
    · exact h
  · exact h

end Sys2Proof.Machine
end

section
/-! PROOFS. A second rollover in each power state (O60). -/

namespace Sys2Proof.Machine

/-! ### The rollover in ACTIVE, up to the ignition-off timer -/

/-- The rollover in ACTIVE up to the break second: the stamp, the fare second, the close of the second, and the timers of
the fares, the intercom and the shift. -/
@[irreducible] def State.ticked (s : State) : State := s.tickCalendar.fareSecond.closeSecond.fareTimers.intercomTick.breakTick

theorem State.ticked_eq (s : State) :
    s.ticked = s.tickCalendar.fareSecond.closeSecond.fareTimers.intercomTick.breakTick := by
  unfold State.ticked
  rfl

/-- The rollover in ACTIVE. -/
@[irreducible] def State.rolledOver (s : State) : State := s.ticked.ignitionTick.minuteTick.followSign

theorem State.rolledOver_eq (s : State) : s.rolledOver = s.ticked.ignitionTick.minuteTick.followSign := by
  unfold State.rolledOver
  rfl

/-- The parts of the rollover after the stamp leave the calendar. -/
theorem State.timers_cal (s : State) : s.fareSecond.closeSecond.fareTimers.intercomTick.breakTick.cal = s.cal := by
  simp [State.breakTick]

@[simp] theorem State.ticked_cal (s : State) : s.ticked.cal = s.tickCalendar.cal := by
  rw [State.ticked_eq]
  exact State.timers_cal s.tickCalendar
@[simp] theorem State.ticked_store (s : State) : s.ticked.store = s.store := by simp [State.ticked_eq, State.breakTick]
@[simp] theorem State.ticked_prev (s : State) : s.ticked.prev = s.prev := by simp [State.ticked_eq, State.breakTick]
@[simp] theorem State.ticked_tot (s : State) : s.ticked.tot = s.tot := by simp [State.ticked_eq, State.breakTick]
@[simp] theorem State.ticked_supply (s : State) : s.ticked.supply = s.supply := by simp [State.ticked_eq, State.breakTick]

theorem State.ticked_dist (s : State) : s.ticked.dist = { s.dist with window := 0, overspeed := false } := by
  simp [State.ticked_eq, State.breakTick, State.closeSecond_dist]

theorem State.ticked_ic (s : State) : s.ticked.ic = ((s.ic.callTicked .left).callTicked .right).pathTicked := by
  simp [State.ticked_eq, State.breakTick, State.intercomTick_ic]

/-- R30, R12, R108: the records after the fare second and the fare timers. -/
theorem State.ticked_slot (s : State) (j : Fin 4) : s.ticked.slot j = (s.fareSecond.slot j).map Trip.timersTicked := by
  have h : s.ticked.slots = s.tickCalendar.fareSecond.closeSecond.fareTimers.slots := by
    simp [State.ticked_eq, State.breakTick]
  rw [State.slot_congr h j, State.fareTimers_slot, State.slot_congr (State.closeSecond_slots _) j, State.tickCalendar,
    State.fareSecond_onCal]
  rfl

/-- R30: a RUNNING fare is credited, and none of its timers counts. -/
theorem State.ticked_slot_running {s : State} {j : Fin 4} {v : Trip} (hv : s.slot j = some v) (hr : v.state = .running) :
    s.ticked.slot j = s.fareSecond.slot j := by
  obtain ⟨w, hw, hs⟩ := State.fareSecond_running hv hr
  rw [State.ticked_slot, hw, Option.map_some, Trip.timersTicked_other (by simp [hs]) (by simp [hs])]

/-- R12, R108: a fare that is not RUNNING has its timers count. -/
theorem State.ticked_slot_other {s : State} {j : Fin 4} {v : Trip} (hv : s.slot j = some v) (hr : v.state ≠ .running) :
    s.ticked.slot j = some v.timersTicked := by
  have h : s.fareSecond.slot j = s.slot j :=
    State.fareSecond_slot_other fun w hw => by rw [hv] at hw; cases hw; exact hr
  rw [State.ticked_slot, h, hv, Option.map_some]

/-- A FREE slot stays FREE. -/
theorem State.ticked_slot_none {s : State} {j : Fin 4} (hv : s.slot j = none) : s.ticked.slot j = none := by
  rw [State.ticked_slot, State.fareSecond_slot_other (by simp [hv]), hv, Option.map_none]

/-- R12, R108: the timers of a fare leave it active or not as it was. -/
theorem Trip.timersTicked_active (t : Trip) : t.timersTicked.state.isActive = t.state.isActive := by
  cases h : t.state with
  | settling =>
    simp only [Trip.timersTicked, Trip.paymentTicked, h]
    simp only [or_true, if_true]
    split
    · rfl
    · rfl
  | stopped => simp [Trip.timersTicked, Trip.paymentTicked, h]
  | running => rw [Trip.timersTicked_other (by simp [h]) (by simp [h]), h]
  | paused => rw [Trip.timersTicked_other (by simp [h]) (by simp [h]), h]
  | settled => rw [Trip.timersTicked_other (by simp [h]) (by simp [h]), h]

/-- R171: whether a fare is active is not changed before the ignition-off timer counts. -/
theorem State.ticked_anyActive (s : State) : s.ticked.anyActive = s.anyActive := by
  refine State.anyActive_congr fun j => ?_
  cases hv : s.slot j with
  | none => rw [State.ticked_slot_none hv]
  | some v =>
    by_cases hr : v.state = .running
    · obtain ⟨w, hw, hs⟩ := State.fareSecond_running hv hr
      simp [State.ticked_slot_running hv hr, hw, activeSlot, hs, hr]
    · rw [State.ticked_slot_other hv hr]
      exact v.timersTicked_active

/-- R128, R157: the shift record after the rollover's timers. -/
theorem State.ticked_shift {s : State} {sh : Shift} (h : s.shift = some sh) :
    ∃ sh', s.ticked.shift = some sh' ∧ sh'.state = sh.state
      ∧ (sh'.breakSeconds = if sh.state = .onBreak then satAdd sh.breakSeconds 1 else sh.breakSeconds)
      ∧ ∀ x, s.ic.misses x → (¬ s.ic.misses x.other → sh'.missedCalls = satAdd sh.missedCalls 1)
        ∧ (s.ic.misses x.other → sh'.missedCalls = satAdd sh.missedCalls 2) := by
  have hk : s.tickCalendar.fareSecond.closeSecond.fareTimers.shift.map Shift.kept = some sh.kept := by
    rw [State.fareTimers_shift, State.closeSecond_shift_kept, State.fareSecond_shift_kept, State.tickCalendar_shift, h]
    rfl
  obtain ⟨a, ha, hak⟩ := Option.map_eq_some_iff.1 hk
  have hic : s.tickCalendar.fareSecond.closeSecond.fareTimers.ic = s.ic := by simp
  obtain ⟨b, hb, hbs, hbb, hbm⟩ := State.intercomTick_shift ha
  rw [hic] at hbm
  simp only [Shift.kept, Prod.mk.injEq] at hak
  obtain ⟨has, hab, ham⟩ := hak
  refine ⟨b.breakSecond, ?_, ?_, ?_, ?_⟩
  · simp [State.ticked_eq, State.breakTick, State.credit, hb]
  · unfold Shift.breakSecond
    split <;> exact hbs.trans has
  · unfold Shift.breakSecond
    rw [hbs, has, hbb, hab]
    split
    · rfl
    · exact hbb.trans hab
  · have hm : b.breakSecond.missedCalls = b.missedCalls := by
      unfold Shift.breakSecond
      split <;> rfl
    rwa [hm, ← ham]

theorem State.breakTick_events (s : State) : KeepsEvents s s.breakTick := .of_eq rfl

theorem State.followSign_events (s : State) : KeepsEvents s s.followSign := .of_eq s.followSign_dash

/-- The events pending after the intercom's timers stay pending to the end of the rollover. -/
theorem State.called_events (s : State) :
    KeepsEvents s.tickCalendar.fareSecond.closeSecond.fareTimers.intercomTick s.rolledOver := by
  have hm := (State.ignitionTick_events s.ticked).trans (State.minuteTick_events _)
  rw [State.rolledOver_eq]
  refine KeepsEvents.trans ?_ (hm.trans (State.followSign_events _))
  rw [State.ticked_eq]
  exact State.breakTick_events _

/-- The events pending after the fare timers stay pending to the end of the rollover. -/
theorem State.timed_events (s : State) : KeepsEvents s.tickCalendar.fareSecond.closeSecond.fareTimers s.rolledOver :=
  (State.intercomTick_events _).trans s.called_events

/-- The events pending after the close of the second stay pending to the end of the rollover. -/
theorem State.closed_events (s : State) : KeepsEvents s.tickCalendar.fareSecond.closeSecond s.rolledOver :=
  (State.fareTimers_events _).trans s.timed_events

/-- R53: OVERSPEED is pending after the rollover that closes an overspeed second. -/
theorem State.rolledOver_overspeed {s : State} (h : s.dist.overspeed = true) :
    s.rolledOver.dash.isPending .overspeed = true := by
  refine s.closed_events _ ?_
  rw [State.closeSecond_overspeed (by simpa using h)]
  exact DashLink.isPending_raise_of (.inr rfl)

/-- R108: FARE is pending after the rollover at which a payment timer expires. -/
theorem State.rolledOver_fare {s : State} {i : Fin 4} {v : Trip} (hv : s.slot i = some v) (hs : v.state = .settling)
    (ht : v.paymentOrNew.timer ≤ 1) : s.rolledOver.dash.isPending .fare = true := by
  refine s.timed_events _ (State.fareTimers_fare_expired (i := i) (v := v) ?_ hs ht)
  have hv' : s.tickCalendar.slot i = some v := (State.slot_congr s.tickCalendar_slots i).trans hv
  rw [State.slot_congr (State.closeSecond_slots _) i, State.fareSecond_slot_other, hv']
  intro w hw
  have e : w = v := Option.some.inj (hw.symm.trans hv')
  simp [e, hs]

/-- R128: CALL_MISSED is pending after a call timer at which a call ends unanswered. -/
theorem State.callTick_callMissed {x : Station} {s : State} (h : s.ic.misses x) :
    (s.callTick x).dash.isPending .callMissed = true := by
  rw [(State.callTick_eq x s).2.2, if_pos (show s.ic.isCalling x = true ∧ (s.ic.line x).callTimer ≤ 1 from h)]
  exact DashLink.isPending_raise_of (.inr rfl)

/-- R128: CALL_MISSED is pending after the intercom's timers where a call ends unanswered. -/
theorem State.intercomTick_callMissed {x : Station} {s : State} (h : s.ic.misses x) :
    s.intercomTick.dash.isPending .callMissed = true := by
  cases x with
  | left => exact State.callTick_events .right _ _ (State.callTick_callMissed h)
  | right => exact State.callTick_callMissed (x := .right) ((State.callTick_left_misses_right s).2 h)

/-- R128: CALL_MISSED is pending after the rollover at which a call ends unanswered. -/
theorem State.rolledOver_callMissed {s : State} {x : Station} (h : s.ic.misses x) :
    s.rolledOver.dash.isPending .callMissed = true := by
  have hic : s.tickCalendar.fareSecond.closeSecond.fareTimers.ic = s.ic := by simp
  exact s.called_events _ (State.intercomTick_callMissed (hic ▸ h))

/-! ### The rollover in ACTIVE, as the other blocks see it -/

/-- R76: the calendar after the rollover is that of the minute's evaluation on any state with the stamp and the store. -/
theorem State.rolledOver_cal {s u : State} (hc : u.cal = s.tickCalendar.cal) (hs : u.store = s.store) :
    s.rolledOver.cal = u.minuteTick.cal := by
  rw [State.rolledOver_eq, State.followSign_cal]
  exact (State.minuteTick_congr (by simp [hc]) (by simp [hs])).1

/-- R76: a record after the rollover is that of the minute's evaluation on any state with the stamp, the store and the
record that the rollover's timers leave. -/
theorem State.rolledOver_slot {s u : State} {j : Fin 4} (hc : u.cal = s.tickCalendar.cal) (hs : u.store = s.store)
    (hj : s.ticked.slot j = u.slot j) : s.rolledOver.slot j = u.minuteTick.slot j := by
  rw [State.rolledOver_eq, State.slot_congr (State.followSign_slots _) j]
  refine (State.minuteTick_congr (by simp [hc]) (by simp [hs])).2 j ?_
  rw [State.slot_congr (State.ignitionTick_slots _) j, hj]

/-- R41: a record that the rollover's timers leave outside RUNNING and PAUSED is the one after the rollover. -/
theorem State.rolledOver_slot_kept {s : State} {j : Fin 4} {w : Trip} (h : s.ticked.slot j = some w)
    (h1 : w.state ≠ .running) (h2 : w.state ≠ .paused) : s.rolledOver.slot j = some w := by
  rw [State.rolledOver_slot (u := s.ticked) (by simp) (by simp) rfl, State.minuteTick_slot_other, h]
  intro v hv
  have e : v = w := Option.some.inj (hv.symm.trans h)
  exact e ▸ ⟨h1, h2⟩

/-- A slot that is FREE stays FREE through a rollover. -/
theorem State.rolledOver_slot_none {s : State} {j : Fin 4} (h : s.slot j = none) : s.rolledOver.slot j = none := by
  have hn := State.ticked_slot_none h
  rw [State.rolledOver_slot (u := s.ticked) (by simp) (by simp) rfl, State.minuteTick_slot_other (by simp [hn]), hn]

@[simp] theorem State.rolledOver_shift (s : State) : s.rolledOver.shift = s.ticked.shift := by simp [State.rolledOver_eq]

@[simp] theorem State.rolledOver_supply (s : State) : s.rolledOver.supply = s.ticked.ignitionTick.supply := by
  simp [State.rolledOver_eq]

@[simp] theorem State.rolledOver_ic (s : State) : s.rolledOver.ic = s.ticked.ignitionTick.ic := by
  simp [State.rolledOver_eq]

@[simp] theorem State.rolledOver_link (s : State) : s.rolledOver.link = s.ticked.ignitionTick.link := by
  simp [State.rolledOver_eq]

/-- R171: where the rollover does not bring STANDBY it changes, after the other timers, the ignition-off timer alone. -/
theorem State.ignitionTick_awake {s : State} (hp : s.supply.power = .active) (h : s.staysAwake) :
    ∃ n, s.ignitionTick = { s with supply := { s.supply with offTimer := n } } := by
  cases ho : s.supply.ignitionOn
  · exact ⟨_, State.ignitionTick_counts hp ho h⟩
  · exact ⟨s.supply.offTimer, State.ignitionTick_on ho⟩

/-- R171: the rollover's other timers have no part in whether it brings STANDBY. -/
theorem State.ticked_staysAwake {s : State} : s.ticked.staysAwake ↔ s.staysAwake := by
  simp [State.staysAwake, State.ticked_anyActive]

/-- R171: where the rollover does not bring STANDBY the part stays ACTIVE, with its intercom and link after their timers. -/
theorem State.rolledOver_awake {s : State} (hp : s.supply.power = .active) (h : s.staysAwake) :
    s.rolledOver.supply.power = .active ∧ s.rolledOver.ic = s.ticked.ic ∧ s.rolledOver.link = s.ticked.link := by
  obtain ⟨n, e⟩ := State.ignitionTick_awake (by simpa using hp) (State.ticked_staysAwake.2 h)
  simp [e, hp]

/-- R171: the supply unit after a rollover with the ignition OFF that does not bring STANDBY. -/
theorem State.rolledOver_supply_counts {s : State} (hp : s.supply.power = .active) (ho : s.supply.ignitionOn = false)
    (h : s.staysAwake) :
    s.rolledOver.supply = { s.supply with offTimer := nextOffTimer s.anyActive s.supply.offTimer } := by
  rw [State.rolledOver_supply, State.ignitionTick_counts (by simpa using hp) (by simpa using ho)
    (State.ticked_staysAwake.2 h), State.ticked_anyActive]
  simp

/-- R108: a fare whose payment timer expires alone, with no fare RUNNING, has its DUE as the rollover's only notice. -/
theorem State.rolledOver_link_expired {s : State} {i : Fin 4} {v : Trip} (hp : s.supply.power = .active)
    (hv : s.slot i = some v) (hs : v.state = .settling) (ht : v.paymentOrNew.timer ≤ 1) (hk : s.runningCount = 0)
    (ho : ∀ j w, j ≠ i → s.slot j = some w → w.state ≠ .settling) :
    s.rolledOver.link = (s.postAll v.stations (.due v.number v.totalDue)).link := by
  have ha : s.staysAwake := .inr (.inl (State.anyActive_eq_true.2 ⟨i, v, hv, by simp [hs, FareState.isActive]⟩))
  have hf : s.tickCalendar.fareSecond = s.tickCalendar := if_pos hk
  have hc : ∀ j, s.tickCalendar.fareSecond.closeSecond.slot j = s.slot j := fun j =>
    State.slot_congr (by simp [hf]) j
  have hl : s.ticked.link = s.tickCalendar.fareSecond.closeSecond.fareTimers.link := by
    simp [State.ticked_eq, State.breakTick]
  rw [(State.rolledOver_awake hp ha).2.2, hl,
    State.fareTimers_link_expired ((hc i).trans hv) hs ht fun j w hj hw => ho j w hj ((hc j).symm.trans hw)]
  exact State.postAll_link_congr (by simp [hf]) _ _

/-- R171, R173: the ignition-off timer that brings STANDBY, as the supply unit, the intercom and the link see it. -/
theorem State.ignitionTick_sleeps_blocks {s : State} (hp : s.supply.power = .active) (ho : s.supply.ignitionOn = false)
    (ha : s.anyActive = false) (hs : s.store.state = .idle) (ht : 299 ≤ s.supply.offTimer) :
    s.ignitionTick.supply = { s.supply with power := .standby, offTimer := 0, standbyRequest := false }
      ∧ s.ignitionTick.ic = s.ic.allIdle ∧ s.ignitionTick.link = s.link.emptied := by
  rw [State.ignitionTick_sleeps hp ho ha hs ht]
  exact State.enterStandby_blocks _

/-- R141: the sign follows after a rollover. -/
theorem State.rolledOver_follows (s : State) : SignFollows s.rolledOver := by
  rw [State.rolledOver_eq]
  exact State.followSign_follows _

/-- R173: a rollover that brings STANDBY. -/
theorem State.rolledOver_sleeps {s : State} (hp : s.supply.power = .active) (ho : s.supply.ignitionOn = false)
    (ha : s.anyActive = false) (hs : s.store.state = .idle) (ht : 299 ≤ s.supply.offTimer) :
    s.rolledOver.supply = { s.supply with power := .standby, offTimer := 0, standbyRequest := false }
      ∧ s.rolledOver.sign.shown = .blank ∧ s.rolledOver.ic.path = .free ∧ s.rolledOver.link.notices = ⟨none, none⟩ := by
  obtain ⟨hu, hi, hl⟩ := State.ignitionTick_sleeps_blocks (s := s.ticked) (by simpa using hp) (by simpa using ho)
    (s.ticked_anyActive.trans ha) (by simpa using hs) (by simpa using ht)
  rw [State.ticked_supply, ← State.rolledOver_supply] at hu
  refine ⟨hu, s.rolledOver_follows.blank (by rw [hu]; exact nofun), ?_, ?_⟩
  · rw [State.rolledOver_ic, hi]
    rfl
  · rw [State.rolledOver_link, hl]
    rfl

/-! ### The intercom after a rollover (R128, R132, R134) -/

/-- The intercom after a rollover: its call timers, then the path's timer. -/
def Intercom.rolled (c : Intercom) : Intercom := ((c.callTicked .left).callTicked .right).pathTicked

section
variable {c : Intercom} {x : Station}

/-- R128: a call with seconds left counts one of them. -/
theorem Intercom.rolled_calling (h : c.isCalling x = true) (hp : c.path ≠ .linked x) (ht : 1 < (c.line x).callTimer) :
    (c.rolled.line x).state = .calling ∧ (c.rolled.line x).callTimer = (c.line x).callTimer - 1 := by
  obtain ⟨hs, hc, -⟩ := Intercom.pathTicked_line (c := (c.callTicked .left).callTicked .right) (x := x)
    (by rw [c.callsTicked_rest.1]; exact hp)
  rw [Intercom.rolled, hs, hc, c.callsTicked_line, if_pos h, if_neg (Nat.not_le.2 ht)]
  exact ⟨by simpa [Intercom.isCalling] using h, rfl⟩

/-- R128: a call at its last second ends. -/
theorem Intercom.rolled_missed (h : c.isCalling x = true) (hp : c.path ≠ .linked x) (ht : (c.line x).callTimer ≤ 1) :
    (c.rolled.line x).state = .idle ∧ (c.rolled.line x).callTimer = 0 ∧ (c.rolled.line x).deferred = false := by
  obtain ⟨hs, hc, hd⟩ := Intercom.pathTicked_line (c := (c.callTicked .left).callTicked .right) (x := x)
    (by rw [c.callsTicked_rest.1]; exact hp)
  have hl := c.callsTicked_line x
  rw [if_pos h, if_pos ht] at hl
  rw [hl] at hs hc hd
  exact ⟨hs, hc, hd rfl⟩

/-- R132: a conversation with seconds left goes on. -/
theorem Intercom.rolled_linked (hp : c.path = .linked x) (ht : 1 < c.connectionTimer) :
    c.rolled.path = .linked x ∧ c.rolled.connectionTimer = c.connectionTimer - 1 := by
  obtain ⟨h1, h2, -, -⟩ := c.callsTicked_rest
  rw [Intercom.rolled, Intercom.pathTicked_linked (h1.trans hp) (h2.symm ▸ ht)]
  exact ⟨h1.trans hp, by rw [h2]⟩

/-- R134: an announcement with seconds left goes on. -/
theorem Intercom.rolled_talk {g : StationSet} (hp : c.path = .talk g) (ht : 1 < c.talkTimer) :
    c.rolled.path = .talk g ∧ c.rolled.talkTimer = c.talkTimer - 1 := by
  obtain ⟨h1, -, h3, -⟩ := c.callsTicked_rest
  rw [Intercom.rolled, Intercom.pathTicked_talk (h1.trans hp) (h3.symm ▸ ht)]
  exact ⟨h1.trans hp, by rw [h3]⟩

/-- R132: a conversation at its last second ends, with its station IDLE. -/
theorem Intercom.rolled_linked_ends (hp : c.path = .linked x) (ht : c.connectionTimer ≤ 1) :
    c.rolled.path = .free ∧ c.rolled.connectionTimer = 0 ∧ (c.rolled.line x).state = .idle := by
  obtain ⟨h1, h2, -, -⟩ := c.callsTicked_rest
  rw [Intercom.rolled, Intercom.pathTicked_linked_ends (h1.trans hp) (h2.symm ▸ ht), Intercom.close]
  obtain ⟨f1, f2, -, -⟩ := Intercom.freePath_spec (((c.callTicked .left).callTicked .right).makeIdle x)
  refine ⟨f1, f2, (Intercom.freePath_line _ x).1.trans ?_⟩
  rw [Intercom.makeIdle, Intercom.onLine_line, if_pos rfl]

/-- R134: an announcement at its last second ends. -/
theorem Intercom.rolled_talk_ends {g : StationSet} (hp : c.path = .talk g) (ht : c.talkTimer ≤ 1) :
    c.rolled.path = .free ∧ c.rolled.talkTimer = 0 := by
  obtain ⟨h1, -, h3, -⟩ := c.callsTicked_rest
  rw [Intercom.rolled, Intercom.pathTicked_talk_ends (h1.trans hp) (h3.symm ▸ ht)]
  obtain ⟨f1, -, f3, -⟩ := Intercom.freePath_spec ((c.callTicked .left).callTicked .right)
  exact ⟨f1, f3⟩

/-- R128: call timers with seconds left leave who is CALLING and what is deferred. -/
theorem Intercom.callsTicked_waits (h : ∀ y, c.isCalling y = true → 1 < (c.line y).callTimer) (y : Station) :
    ((c.callTicked .left).callTicked .right).isCalling y = c.isCalling y
      ∧ (((c.callTicked .left).callTicked .right).line y).deferred = (c.line y).deferred := by
  unfold Intercom.isCalling
  rw [c.callsTicked_line y]
  split
  · rename_i hc
    rw [if_neg (Nat.not_le.2 (h y hc))]
    exact ⟨rfl, rfl⟩
  · exact ⟨rfl, rfl⟩

/-- R131: a station made IDLE that was not CALLING leaves who is CALLING and what is deferred. -/
theorem Intercom.makeIdle_waits (h : c.isCalling x = false) (y : Station) :
    (c.makeIdle x).isCalling y = c.isCalling y ∧ ((c.makeIdle x).line y).deferred = (c.line y).deferred := by
  unfold Intercom.isCalling Intercom.makeIdle at *
  rw [Intercom.onLine_line]
  split
  · rename_i e
    rw [e, h]
    exact ⟨rfl, rfl⟩
  · exact ⟨rfl, rfl⟩

/-- R127, R132, R134: where the path's timer expires and no call does, the deferred chimes sound. -/
theorem Intercom.rolled_sounds (h : ∀ y, c.isCalling y = true → 1 < (c.line y).callTimer)
    (he : (∃ g, c.path = .talk g ∧ c.talkTimer ≤ 1)
      ∨ ∃ x, c.path = .linked x ∧ c.isConnected x = true ∧ c.connectionTimer ≤ 1) :
    DeferredChimesSound c c.rolled := by
  obtain ⟨h1, h2, h3, h4⟩ := c.callsTicked_rest
  have hw := c.callsTicked_waits h
  rcases he with ⟨g, hp, ht⟩ | ⟨x, hp, hx, ht⟩
  · rw [Intercom.rolled, Intercom.pathTicked_talk_ends (h1.trans hp) (h3.symm ▸ ht)]
    exact (Intercom.freePath_sounds _).congr (fun y => (hw y).1.symm) (fun y => (hw y).2.symm) (h4 h).symm
  · rw [Intercom.rolled, Intercom.pathTicked_linked_ends (h1.trans hp) (h2.symm ▸ ht), Intercom.close]
    have hc : c.isCalling x = false := by
      simp only [Intercom.isConnected, beq_iff_eq] at hx
      simp [Intercom.isCalling, hx]
    have hi := Intercom.makeIdle_waits ((hw x).1.trans hc)
    exact (Intercom.freePath_sounds _).congr (fun y => ((hi y).1.trans (hw y).1).symm)
      (fun y => ((hi y).2.trans (hw y).2).symm) (h4 h).symm

end

end Sys2Proof.Machine
end

section
/-! PROOFS. The second rollover is taken in each power state (O60). -/

namespace Sys2Proof.Machine

/-- The rollover in ACTIVE is taken by every block. -/
theorem secondRollover_active {s : State} (hp : s.supply.power = .active) :
    exec .secondRollover s = .next s.rolledOver := by
  have h1 : s.tickCalendar.fareSecond.closeSecond.supply.power = .active := by simpa using hp
  have h2 : s.tickCalendar.fareSecond.closeSecond.fareTimers.supply.power = .active := by simpa using hp
  have h3 : s.tickCalendar.fareSecond.closeSecond.fareTimers.intercomTick.supply.power ≠ .holdover := by simp [hp]
  have h4 : s.ticked.ignitionTick.supply.power ≠ .holdover := State.ignitionTick_not_holdover (by simp [hp])
  have e1 : s.tickCalendar.fareSecond.closeSecond.inActive State.fareTimers = _ := if_pos h1
  have e2 : s.tickCalendar.fareSecond.closeSecond.fareTimers.inActive State.intercomTick = _ := if_pos h2
  have e3 : s.tickCalendar.fareSecond.closeSecond.fareTimers.intercomTick.outsideHoldover State.breakTick = _ :=
    if_neg h3
  have e4 : s.ticked.ignitionTick.outsideHoldover State.minuteTick = _ := if_neg h4
  show execSecondRollover s = _
  unfold execSecondRollover
  rw [e1, e2, e3, ← State.ticked_eq, e4, ← State.rolledOver_eq]

/-- R62: the state with the stamp advanced and the second empty follows as the state did. -/
theorem secondRollover_holdover {s : State} (hp : s.supply.power = .holdover) (hf : SignFollows s)
    (hk : s.runningCount = 0) (hw : s.dist.window = 0) (ho : s.dist.overspeed = false) :
    exec .secondRollover s = .next s.tickCalendar := by
  have h1 : s.tickCalendar.fareSecond = s.tickCalendar := if_pos hk
  have h2 : s.tickCalendar.closeSecond = s.tickCalendar := by
    have hd : ({ s.dist with window := 0, overspeed := false } : Distance) = s.dist := by
      rw [← hw, ← ho]
    rw [State.closeSecond_slow (by simpa using ho), State.tickCalendar_dist, hd]
    rfl
  have hp' : s.tickCalendar.supply.power = .holdover := hp
  have h3 : ∀ f, s.tickCalendar.inActive f = s.tickCalendar := fun f => if_neg (by simp [hp])
  have h4 : ∀ f, s.tickCalendar.outsideHoldover f = s.tickCalendar := fun f => if_pos hp'
  have h5 : s.tickCalendar.ignitionTick = s.tickCalendar := if_neg (by simp [hp])
  show execSecondRollover s = _
  unfold execSecondRollover
  rw [h1, h2, h3, h3, h4, h5, h4]
  exact congrArg Host.Outcome.next (State.followSign_of_follows (hf.of_shapes rfl rfl rfl fun _ => rfl))

/-- R64: the rollover in STANDBY: the stamp, the close of the second, the break second and the minute's evaluation. -/
theorem secondRollover_standby {s : State} (hp : s.supply.power = .standby) (hf : SignFollows s)
    (hk : s.runningCount = 0) :
    exec .secondRollover s = .next s.tickCalendar.closeSecond.breakTick.minuteTick := by
  have h1 : s.tickCalendar.fareSecond = s.tickCalendar := if_pos hk
  have hp1 : s.tickCalendar.closeSecond.supply.power = .standby := by simpa using hp
  have h3 : ∀ f, s.tickCalendar.closeSecond.inActive f = s.tickCalendar.closeSecond := fun f => if_neg (by simp [hp])
  have hp2 : s.tickCalendar.closeSecond.breakTick.supply.power = .standby := hp1
  have h4 : s.tickCalendar.closeSecond.outsideHoldover State.breakTick = s.tickCalendar.closeSecond.breakTick :=
    if_neg (by simp [hp])
  have h5 : s.tickCalendar.closeSecond.breakTick.ignitionTick = s.tickCalendar.closeSecond.breakTick :=
    if_neg (by simp [hp2])
  have h6 : s.tickCalendar.closeSecond.breakTick.outsideHoldover State.minuteTick
      = s.tickCalendar.closeSecond.breakTick.minuteTick := if_neg (by simp [hp2])
  have hb : SignFollows s.tickCalendar.closeSecond.breakTick := by
    have hblank : s.sign.shown = .blank := hf.blank (by simp [hp])
    have hs : s.tickCalendar.closeSecond.breakTick.sign = s.sign := by simp [State.breakTick]
    rw [SignFollows, hs, hblank]
    exact (if_pos (by simp [hp2])).symm
  show execSecondRollover s = _
  unfold execSecondRollover
  rw [h1, h3, h3, h4, h5, h6, State.followSign_of_follows hb.minuteTick]

/-- R53, R157: the close of the second and the break second, block by block. -/
theorem State.closeSecond_breakTick (s : State) :
    s.closeSecond.breakTick = { s with
      dist := { s.dist with window := 0, overspeed := false }
      dash := if s.dist.overspeed = true then s.dash.raise .overspeed else s.dash
      shift := s.shift.map (fun sh =>
        { sh with
          overspeedSeconds := if s.dist.overspeed = true then satAdd sh.overspeedSeconds 1 else sh.overspeedSeconds
          breakSeconds := if sh.state = .onBreak then satAdd sh.breakSeconds 1 else sh.breakSeconds }) } := by
  have hb : ∀ sh : Shift, sh.breakSecond =
      { sh with breakSeconds := if sh.state = .onBreak then satAdd sh.breakSeconds 1 else sh.breakSeconds } := by
    intro sh
    unfold Shift.breakSecond
    split <;> rfl
  cases h : s.dist.overspeed
  · rw [State.closeSecond_slow h, State.breakTick, State.credit, funext hb]
    rfl
  · rw [State.closeSecond_overspeed h, State.breakTick, State.credit, funext hb]
    simp only [Option.map_map]
    rfl

/-- R128: a call that does not end unanswered at this rollover. -/
theorem Intercom.not_misses {c : Intercom} {x : Station} (h : c.isCalling x = false ∨ 1 < (c.line x).callTimer) :
    ¬ c.misses x := fun ⟨h1, h2⟩ => by
  rcases h with h | h
  · simp [h] at h1
  · omega

/-- R30 to R36: away from a minute rollover a RUNNING fare with no hold is credited with the second. -/
theorem State.rolledOver_credits {s : State} {i : Fin 4} {v : Trip} (hv : s.slot i = some v) (hr : v.state = .running)
    (hh : v.hold = none) (hsec : (nextSecond s.cal.time).second ≠ 0) :
    s.rolledOver.slot i = some (creditSecond (s.store.active.tariff v.currentTariff) s.runningCount v) := by
  have hm : s.ticked.minuteTick = s.ticked := if_neg (by rwa [State.ticked_cal, s.tickCalendar_stamp.1])
  rw [State.rolledOver_slot (u := s.ticked) (by simp) (by simp) rfl, hm, State.ticked_slot_running hv hr,
    State.fareSecond_credits hv hr hh]

/-- R41: a PAUSED or SETTLED fare is changed by the minute's evaluation alone. -/
theorem State.rolledOver_slot_untimed {s : State} {i : Fin 4} {v : Trip} (hv : s.slot i = some v)
    (hs : v.state = .paused ∨ v.state = .settled) : s.rolledOver.slot i = s.tickCalendar.minuteTick.slot i := by
  have hn : v.state ≠ .running ∧ v.state ≠ .stopped ∧ v.state ≠ .settling := by rcases hs with h | h <;> simp [h]
  refine State.rolledOver_slot rfl rfl ?_
  rw [State.ticked_slot_other hv hn.1, Trip.timersTicked_other hn.2.1 hn.2.2]
  exact hv.symm

/-- R77: a rollover after which the calendar names another tariff has TARIFF_SWITCH pending. -/
theorem State.rolledOver_switches {s : State} (h : s.rolledOver.cal.tariff ≠ s.tickCalendar.cal.tariff) :
    s.rolledOver.dash.isPending .tariffSwitch = true := by
  rw [State.rolledOver_cal (u := s.ticked.ignitionTick) (by simp) (by simp)] at h
  rw [State.rolledOver_eq, State.followSign_dash]
  exact State.minuteTick_switches (by simpa using h)

/-- R53: the global window is empty after a rollover. -/
theorem State.rolledOver_dist (s : State) : s.rolledOver.dist = { s.dist with window := 0, overspeed := false } := by
  rw [State.rolledOver_eq, ← State.ticked_dist]
  simp

/-- R108, R12: a SETTLING fare after a rollover. -/
theorem State.rolledOver_settling {s : State} {i : Fin 4} {v : Trip} {p : Payment} {g : Grace}
    (hp : s.supply.power = .active) (hv : s.slot i = some v) (hs : v.state = .settling) (hpay : v.payment = some p)
    (hg : v.grace = some g) :
    (1 < p.timer → s.rolledOver.slot i = some { v with
        payment := some { p with timer := p.timer - 1 }, grace := some { g with count := min (g.count + 1) 20 } })
    ∧ (p.timer ≤ 1 →
      s.rolledOver.slot i = some { v with
        state := .stopped
        payment := some { p with attempt := .timedOut, timer := 0 }
        grace := some { g with count := min (g.count + 1) 20 } }
      ∧ s.rolledOver.dash.isPending .fare = true
      ∧ (s.runningCount = 0 → (∀ j w, j ≠ i → s.slot j = some w → w.state ≠ .settling) →
        s.rolledOver.link = (s.postAll v.stations (.due v.number v.totalDue)).link)) := by
  have hk := State.ticked_slot_other hv (by simp [hs])
  refine ⟨fun ht => ?_, fun ht => ?_⟩
  · rw [Trip.timersTicked_settling hs hpay hg ht] at hk
    exact State.rolledOver_slot_kept hk (by simp [hs]) (by simp [hs])
  · rw [Trip.timersTicked_expired hs hpay hg ht] at hk
    have ht' : v.paymentOrNew.timer ≤ 1 := by simpa [Trip.paymentOrNew, hpay] using ht
    exact ⟨State.rolledOver_slot_kept hk nofun nofun, State.rolledOver_fare hv hs ht',
      fun hr ho => State.rolledOver_link_expired hp hv hs ht' hr ho⟩

/-- R128: a CALLING station after a rollover, with the missed call of a call at its last second. -/
theorem State.rolledOver_call {s : State} {x : Station} (hic : s.rolledOver.ic = s.ic.rolled)
    (hc : s.ic.isCalling x = true) (hl : s.ic.path ≠ .linked x) :
    (1 < (s.ic.line x).callTimer → (s.rolledOver.ic.line x).state = .calling
      ∧ (s.rolledOver.ic.line x).callTimer = (s.ic.line x).callTimer - 1)
    ∧ ((s.ic.line x).callTimer ≤ 1 →
      (s.rolledOver.ic.line x).state = .idle ∧ (s.rolledOver.ic.line x).callTimer = 0
      ∧ (s.rolledOver.ic.line x).deferred = false ∧ s.rolledOver.dash.isPending .callMissed = true
      ∧ ∀ sh, s.shift = some sh → ∃ sh', s.rolledOver.shift = some sh'
        ∧ ((s.ic.isCalling x.other = false ∨ 1 < (s.ic.line x.other).callTimer) →
          sh'.missedCalls = satAdd sh.missedCalls 1)
        ∧ (s.ic.isCalling x.other = true → (s.ic.line x.other).callTimer ≤ 1 →
          sh'.missedCalls = satAdd sh.missedCalls 2)) := by
  rw [hic]
  refine ⟨Intercom.rolled_calling hc hl, fun ht => ?_⟩
  obtain ⟨h1, h2, h3⟩ := Intercom.rolled_missed hc hl ht
  refine ⟨h1, h2, h3, State.rolledOver_callMissed ⟨hc, ht⟩, fun sh hsh => ?_⟩
  obtain ⟨sh', e, -, -, hm⟩ := State.ticked_shift hsh
  obtain ⟨m1, m2⟩ := hm x ⟨hc, ht⟩
  exact ⟨sh', (State.rolledOver_shift s).trans e, fun ho => m1 (Intercom.not_misses ho), fun ho hto => m2 ⟨ho, hto⟩⟩

/-- Settles O60: each block's part of the rollover, by the power state. -/
theorem secondRolloverIsTaken : Obligations.SecondRolloverIsTaken := by
  intro next minute hnext hminute
  obtain rfl : next = fun c => (c.setTime (nextSecond c.time)).clearIf (decide (c.time = lastStamp)) :=
    funext fun c => (hnext c).trans c.rollover_eq.symm
  obtain rfl : minute = State.minuteTick := funext hminute
  refine ⟨fun s hp hf hk hw ho => secondRollover_holdover hp hf hk hw ho, fun s hp hf hk => ?_, fun s hp => ?_,
    fun s => ⟨fun h => ?_, fun h => State.closeSecond_slow h⟩⟩
  · rw [secondRollover_standby hp hf hk, State.closeSecond_breakTick]
    rfl
  · refine ⟨s.rolledOver, secondRollover_active hp, State.rolledOver_cal rfl rfl, ?_⟩
    obtain ⟨hm1, hm2⟩ := State.minuteTick_stamp s.tickCalendar
    obtain ⟨hc1, hc2⟩ := s.tickCalendar_stamp
    have hcal : s.rolledOver.cal = s.tickCalendar.minuteTick.cal := State.rolledOver_cal rfl rfl
    refine ⟨hcal ▸ hm1.trans hc1, hcal ▸ hm2.trans hc2, State.rolledOver_switches, s.rolledOver_dist,
      State.rolledOver_overspeed,
      by simp [State.rolledOver_eq], by simp [State.rolledOver_eq], by simp [State.rolledOver_eq], fun i v hv hr => ?_,
      fun i v hv hr hh hsec => ?_, fun i v hv hs => ?_, fun i => State.rolledOver_slot_none, fun i v g hv hs hg => ?_,
      fun i v p g hv hs hpay hg => State.rolledOver_settling hp hv hs hpay hg, fun sh hsh => ?_, fun ho => ?_,
      fun ho ha => ?_, fun ho ha ht => ?_, fun ho ha ht hs => ?_,
      fun ⟨ho, ha, hs, ht⟩ => State.rolledOver_sleeps hp ho ha hs ht, fun haw => ?_⟩
    · exact State.rolledOver_slot rfl rfl (State.ticked_slot_running hv hr)
    · exact State.rolledOver_credits hv hr hh hsec
    · exact State.rolledOver_slot_untimed hv hs
    · exact State.rolledOver_slot_kept ((State.ticked_slot_other hv (by simp [hs])).trans
        (congrArg some (Trip.timersTicked_stopped hs hg))) (by simp [hs]) (by simp [hs])
    · obtain ⟨sh', e, h1, h2, -⟩ := State.ticked_shift hsh
      exact ⟨sh', (State.rolledOver_shift s).trans e, h1, h2⟩
    · rw [State.rolledOver_supply, State.ignitionTick_on (by simpa using ho), State.ticked_supply]
    · rw [State.rolledOver_supply_counts hp ho (.inr (.inl ha)), nextOffTimer, if_pos ha]
    · rw [State.rolledOver_supply_counts hp ho (.inr (.inr (.inr ht))), nextOffTimer, if_neg (by simp [ha]), offTimerMax,
        Nat.min_eq_left (by omega)]
    · rw [State.rolledOver_supply_counts hp ho (.inr (.inr (.inl hs))), nextOffTimer, if_neg (by simp [ha]), offTimerMax,
        Nat.min_eq_right (by omega)]
    · obtain ⟨hpow, hic, -⟩ := State.rolledOver_awake hp haw
      replace hic : s.rolledOver.ic = s.ic.rolled := hic.trans s.ticked_ic
      refine ⟨hpow, s.rolledOver_follows, fun x hc hl => State.rolledOver_call hic hc hl, ?_⟩
      rw [hic]
      exact ⟨fun x => Intercom.rolled_linked, fun g => Intercom.rolled_talk, fun x => Intercom.rolled_linked_ends,
        fun g => Intercom.rolled_talk_ends, Intercom.rolled_sounds⟩
  · rw [State.closeSecond_overspeed h]
    exact ⟨rfl, rfl, rfl⟩

end Sys2Proof.Machine
end

section
/-! PROOFS. The arithmetic of a fare second on one record (O24), the steps and segments it is bounded by (O25), and the fare
second over the slots (O26). -/

namespace Sys2Proof.Machine

/-! ### The counts of a record (R36, R39) -/

/-- Conventions: a 32-bit count raised by nothing stays. -/
theorem satAdd_zero {a : Nat} (h : a ≤ 4294967295) : satAdd a 0 = a := Nat.min_eq_left h

/-- R36: a change of the last segment keeps the segments before it. -/
theorem onLast_dropLast (f : Segment → Segment) (gs : List Segment) : (onLast f gs).dropLast = gs.dropLast := by
  induction gs using onLast.induct with
  | case1 => rfl
  | case2 g => rfl
  | case3 g h rest ih =>
    have hne : onLast f (h :: rest) ≠ [] := by cases rest <;> simp [onLast]
    rw [onLast, List.dropLast_cons_of_ne_nil hne, ih]
    rfl

/-- R36: the last segment after a change of it. -/
theorem onLast_getLast? (f : Segment → Segment) (gs : List Segment) : (onLast f gs).getLast? = gs.getLast?.map f := by
  induction gs using onLast.induct with
  | case1 => rfl
  | case2 g => rfl
  | case3 g h rest ih =>
    rw [onLast, List.getLast?_cons, ih, List.getLast?_cons_cons]
    cases e : (h :: rest).getLast? with
    | none => simp at e
    | some x => rfl

/-! ### One value charged and counted (R32 to R36) -/

/-- R34: a step uses up a free step where one is left. -/
theorem takeStep_freeSteps (amount : Nat) (t : Trip) : (takeStep amount t).freeSteps = t.freeSteps - 1 := by
  unfold takeStep
  split
  · rfl
  · have hz : t.freeSteps = t.freeSteps - 1 := by omega
    split <;> exact hz

/-- R34: the steps of a second use up free steps one by one. -/
theorem takeSteps_freeSteps (amount n : Nat) (t : Trip) : (takeSteps amount n t).freeSteps = t.freeSteps - n := by
  induction n generalizing t with
  | zero => rfl
  | succ n ih => rw [takeSteps, ih, takeStep_freeSteps, Nat.sub_sub, Nat.add_comm]

/-- R32 to R36: a value charged takes its steps on the record, leaves the remainders of the two divisions, and the counts
rise. -/
theorem countUp_charge_eq {tar : Tariff} {v percent n : Nat} {t : Trip} (metres seconds : Nat)
    (hn : n = (t.progress + (v * percent + t.remainder) / 100) / (tar.stepDistance * tar.stepTime)) :
    countUp metres seconds (stepsEarned tar v percent t) (charge tar v percent t) =
      { takeSteps tar.stepAmount n t with
        remainder := (v * percent + t.remainder) % 100
        progress := (t.progress + (v * percent + t.remainder) / 100) % (tar.stepDistance * tar.stepTime)
        segments := onLast (fun g =>
          { g with metres := satAdd g.metres metres, seconds := satAdd g.seconds seconds, steps := satAdd g.steps n })
          t.segments
        hiredMetres := satAdd t.hiredMetres metres
        hiredSeconds := satAdd t.hiredSeconds seconds
        window := 0 } := by
  obtain rfl : n = stepsEarned tar v percent t := hn
  have hp : grownProgress v percent t - stepsEarned tar v percent t * tar.stepSize
      = grownProgress v percent t % tar.stepSize := by
    rw [stepsEarned, Nat.mod_eq_sub_div_mul]
  obtain ⟨-, -, -, -, -, -, hsegs, -, -, -, -, -, hm, hs⟩ :=
    takeSteps_frame tar.stepAmount (stepsEarned tar v percent t) t
  rw [charge_eq, hp, countUp]
  simp only [hsegs, hm, hs]
  rfl

/-- Settles O24: a fare second charges the raw value of R31 and counts one second; a partial settlement charges the
distance alone and counts none. -/
theorem fareSecondWorksTheRecord : Obligations.FareSecondWorksTheRecord := by
  refine ⟨fun tar k v n t hv hn => ?_, fun tar k n t hn => ?_, fun tar => ⟨rfl, rfl, rfl, rfl⟩⟩
  · obtain rfl : v = rawValue tar t.window := hv
    rw [creditSecond, countUp_charge_eq t.window 1 hn]
    exact ⟨rfl, rfl, takeSteps_freeSteps .., rfl, rfl, rfl, rfl, rfl, rfl, onLast_dropLast .., fun g hg => by
      rw [onLast_getLast?, hg]; rfl⟩
  · rw [settleWindow, countUp_charge_eq t.window 0 hn]
    exact ⟨rfl, rfl, takeSteps_freeSteps .., rfl, rfl, rfl, rfl, rfl, satAdd_zero, onLast_dropLast .., fun g hg hs => by
      rw [onLast_getLast?, hg, Option.map_some, satAdd_zero hs]⟩

/-! ### The cap of the total due (R34, R35) -/

/-- R34: a free step costs nothing. -/
theorem takeStep_free {t : Trip} (amount : Nat) (h : 0 < t.freeSteps) :
    takeStep amount t = { t with freeSteps := t.freeSteps - 1 } := if_pos h

/-- R34: a step below the cap adds its amount. -/
theorem takeStep_full {amount : Nat} {t : Trip} (h : t.totalDue = t.flagFall + t.stepTotal + t.extrasTotal)
    (hf : t.freeSteps = 0) (hb : t.totalDue + amount ≤ dueMax) :
    (takeStep amount t).totalDue = t.totalDue + amount ∧ (takeStep amount t).saturated = t.saturated
      ∧ (takeStep amount t).freeSteps = 0 := by
  rw [takeStep, if_neg (by omega), if_pos hb]
  refine ⟨?_, rfl, hf⟩
  simp only [Trip.recompute_totalDue]
  omega

/-- R35: a step that would pass the cap leaves the total due at it. -/
theorem takeStep_cut {amount : Nat} {t : Trip} (h : t.totalDue = t.flagFall + t.stepTotal + t.extrasTotal)
    (hc : t.totalDue ≤ dueMax) (hf : t.freeSteps = 0) (hb : dueMax < t.totalDue + amount) :
    (takeStep amount t).totalDue = dueMax ∧ (takeStep amount t).saturated = true ∧ (takeStep amount t).freeSteps = 0 := by
  rw [takeStep, if_neg (by omega), if_neg (by omega)]
  refine ⟨?_, rfl, hf⟩
  simp only [Trip.recompute_totalDue]
  omega

/-- R34, R35: the steps past the free ones add their amount each up to the cap, and the flag is set where the cap cuts. -/
theorem takeSteps_capped (amount n : Nat) (t : Trip) (h : t.totalDue = t.flagFall + t.stepTotal + t.extrasTotal)
    (hc : t.totalDue ≤ dueMax) :
    (takeSteps amount n t).totalDue = min (t.totalDue + (n - t.freeSteps) * amount) dueMax
      ∧ ((takeSteps amount n t).saturated = true
        ↔ (t.saturated = true ∨ dueMax < t.totalDue + (n - t.freeSteps) * amount)) := by
  induction n generalizing t with
  | zero => simp [takeSteps, hc, Nat.not_lt.2 hc]
  | succ n ih =>
    have ih := ih (takeStep amount t) (takeStep_due amount t h) (takeStep_le amount t h hc)
    rw [takeSteps]
    by_cases hf : 0 < t.freeSteps
    · rw [takeStep_free amount hf] at ih ⊢
      rwa [show n + 1 - t.freeSteps = n - (t.freeSteps - 1) by omega]
    · have hf : t.freeSteps = 0 := by omega
      rw [hf, Nat.sub_zero, Nat.succ_mul]
      rcases Nat.lt_or_ge dueMax (t.totalDue + amount) with hb | hb
      · obtain ⟨hdue, hsat, hfree⟩ := takeStep_cut h hc hf hb
        rw [hdue, hsat, hfree] at ih
        exact ⟨ih.1.trans (by omega), fun _ => .inr (by omega), fun _ => ih.2.2 (.inl rfl)⟩
      · obtain ⟨hdue, hsat, hfree⟩ := takeStep_full h hf hb
        rw [hdue, hsat, hfree, Nat.sub_zero] at ih
        rwa [← Nat.add_assoc, Nat.add_right_comm]

/-- Settles O25: the steps by induction on their number; a segment by whether four stand. -/
theorem stepsAndSegmentsAreBounded : Obligations.StepsAndSegmentsAreBounded :=
  ⟨fun amount n t h hc => takeSteps_capped amount n t h hc, fun _ _ _ _ =>
    ⟨fun h => if_neg (Nat.not_le.2 h), fun h => if_pos h⟩⟩

/-! ### The fare second over the slots (R30, R37) -/

/-- R30: with a fare RUNNING the shift has one hired second more. -/
theorem State.fareSecond_shift {s : State} (h : s.runningCount ≠ 0) :
    s.fareSecond.shift = s.shift.map (fun sh => { sh with hiredSeconds := satAdd sh.hiredSeconds 1 }) := by
  rw [State.fareSecond, if_neg h]
  simp [forSlots]

/-- R37: a RUNNING fare with a hold is credited with the second, its hold warned where the warning is due. -/
theorem State.fareSecond_holds {s : State} {i : Fin 4} {t u : Trip} {p : Payment} {h : Hold} (ht : s.slot i = some t)
    (hr : t.state = .running) (hp : t.payment = some p) (hh : p.hold = some h)
    (hu : u = creditSecond (s.store.active.tariff t.currentTariff) s.runningCount t) :
    (WarnsHold s t u h → s.fareSecond.slot i
      = some { u with payment := some { p with hold := some { h with warned := true } } })
    ∧ (¬ WarnsHold s t u h → s.fareSecond.slot i = some u) := by
  have hup : u.payment = some p := by rw [hu, (creditSecond_frame ..).2.2.2.1, hp]
  have huh : u.hold = some h := by rw [Trip.hold, hup, Option.bind_some, hh]
  obtain ⟨v, hv, e⟩ := State.fareSecond_slot_running ht hr
  have hw : WarnsHold v t u h ↔ WarnsHold s t u h := by rw [WarnsHold, hv, WarnsHold]
  rw [e, ← hu, ← hw]
  refine ⟨fun hd => ?_, fun hd => ?_⟩
  · obtain ⟨hc, hd⟩ := warnsHold_iff.1 hd
    rw [State.engine_warned hup hh hc hd]
    exact State.putSlot_slot_same i _ v
  · rw [State.engine_unwarned fun g hg hgd => hd ?_, State.putSlot_slot_same]
    cases huh.symm.trans hg
    exact warnsHold_iff.2 hgd

/-- Settles O26: a fare second slot by slot, RUNNING with and without a hold and not RUNNING, and the shift. -/
theorem fareSecondCreditsTheRunning : Obligations.FareSecondCreditsTheRunning := by
  refine fun s => ⟨fun h => if_pos h, fun i t ht hr hh => State.fareSecond_credits ht hr hh, ?_, fun i t ht hr => ?_,
    fun sh hk hsh => ?_⟩
  · intro i t p h u ht hr hp hh hu
    obtain ⟨hwarned, hkept⟩ := State.fareSecond_holds ht hr hp hh hu
    split
    next hw => exact hwarned hw
    next hw => exact hkept hw
  · rw [State.fareSecond_slot_other (fun v hv => Option.some.inj (ht.symm.trans hv) ▸ hr), ht]
  · rw [State.fareSecond_shift hk, hsh]
    rfl

end Sys2Proof.Machine
end

section
/-! PROOFS. The evaluation of the schedule (O35). -/

namespace Sys2Proof.Machine

/-! ### What a window contains, and which one decides (R73 to R75) -/

/-- R73, R74: a window contains a minute of a day that its date fields match and its minute range covers; a range that
ends before it begins goes over midnight, and one that ends where it begins covers the day. -/
theorem Window.contains_iff (w : Window) (t : Stamp) :
    w.contains t = true ↔
      (w.weekdays = 0 ∨ w.weekdays.testBit (weekdayOf t).bit = true) ∧ (w.day = 0 ∨ w.day = t.day)
      ∧ (w.month = 0 ∨ w.month = t.month)
      ∧ ((w.start < w.stop ∧ w.start ≤ t.minuteOfDay ∧ t.minuteOfDay < w.stop)
        ∨ (w.stop < w.start ∧ (w.start ≤ t.minuteOfDay ∨ t.minuteOfDay < w.stop)) ∨ w.stop = w.start) := by
  have hm : w.coversMinute t.minuteOfDay = true ↔
      (w.start < w.stop ∧ w.start ≤ t.minuteOfDay ∧ t.minuteOfDay < w.stop)
        ∨ (w.stop < w.start ∧ (w.start ≤ t.minuteOfDay ∨ t.minuteOfDay < w.stop)) ∨ w.stop = w.start := by
    unfold Window.coversMinute
    repeat' split
    · simp only [Bool.and_eq_true, decide_eq_true_eq]
      omega
    · simp only [Bool.or_eq_true, decide_eq_true_eq]
      omega
    · simp only [true_iff]
      omega
  rw [Window.contains, Bool.and_eq_true, hm]
  simp only [Window.matchesDate, Bool.and_eq_true, Bool.or_eq_true, beq_iff_eq, and_assoc]

/-- R75: the search names the first window of the list that contains the minute, or none where none does. -/
theorem firstWindow_cases (t : Stamp) (n : Nat) (ws : List Window) :
    (∃ (k : Nat) (h : k < ws.length), ws[k].contains t = true ∧ (∀ (j : Nat) (_ : j < k), ws[j].contains t = false)
      ∧ firstWindow t n ws = some (n + k, ws[k].tariff))
    ∨ ((∀ w ∈ ws, w.contains t = false) ∧ firstWindow t n ws = none) := by
  induction ws generalizing n with
  | nil => exact .inr ⟨by simp, rfl⟩
  | cons w ws ih =>
    cases hw : w.contains t with
    | true => exact .inl ⟨0, by simp, hw, nofun, by simp [firstWindow, hw]⟩
    | false =>
      have hrest : firstWindow t n (w :: ws) = firstWindow t (n + 1) ws := by simp [firstWindow, hw]
      rw [hrest]
      rcases ih (n + 1) with ⟨k, h, hk, hbefore, e⟩ | ⟨hnone, e⟩
      · refine .inl ⟨k + 1, Nat.succ_lt_succ h, hk, fun j hj => ?_, by rw [e, Nat.add_right_comm, Nat.add_assoc]; rfl⟩
        cases j with
        | zero => exact hw
        | succ j => exact hbefore j (by omega)
      · exact .inr ⟨by simpa using ⟨hw, hnone⟩, e⟩

/-- R75: the lowest-numbered window that contains the minute decides, or the default tariff where none does. -/
theorem decideTariff_cases (img : Image) (t : Stamp) :
    (∃ k : Fin 12, (img.windows[k]).contains t = true ∧ (∀ j : Fin 12, j < k → (img.windows[j]).contains t = false)
      ∧ decideTariff img t = ((img.windows[k]).tariff, .window (k.val + 1)))
    ∨ ((∀ j : Fin 12, (img.windows[j]).contains t = false) ∧ decideTariff img t = (img.defaultTariff, .fallback)) := by
  rcases firstWindow_cases t 1 img.windows.toList with ⟨k, h, hk, hbefore, e⟩ | ⟨hnone, e⟩
  · have h12 : k < 12 := by simpa using h
    refine .inl ⟨⟨k, h12⟩, by simpa using hk, fun j hj => by simpa using hbefore j hj, ?_⟩
    simp [decideTariff, e, Nat.add_comm]
  · refine .inr ⟨fun j => hnone _ ?_, by rw [decideTariff, e]⟩
    simp

/-! ### The evaluation (R76, R77) -/

/-- R76: with the clock set and no commit write, a VALID active image is the one evaluated. -/
theorem State.scheduleImage_active {s : State} (hc : s.cal.clockSet = true) (hs : s.store.state ≠ .commitWrite)
    (hv : s.store.valid = true) : s.scheduleImage = some s.store.active := by
  unfold State.scheduleImage
  rw [if_pos hc]
  split
  next hw _ => exact absurd hw hs
  next hw _ => exact absurd hw hs
  next => exact if_pos hv

/-- R76: with the clock unset there is no evaluation. -/
theorem State.evaluate_unset {s : State} (h : s.cal.clockSet = false) : s.evaluate = s := by
  have hi : s.scheduleImage = none := by simp [State.scheduleImage, h]
  rw [State.evaluate, hi]

theorem State.evaluate_image {s : State} {img : Image} {n : Nat} {d : Deciding} (hi : s.scheduleImage = some img)
    (hd : decideTariff img s.cal.time = (n, d)) : s.evaluate = s.takeTariff n d := by
  rw [State.evaluate, hi]
  simp only [hd]

/-- R77: an evaluation that names another tariff is a tariff switch at every slot. -/
theorem State.takeTariff_switch {s : State} {n : Nat} (d : Deciding) (h : s.cal.tariff ≠ some n) :
    s.takeTariff n d = forSlots (State.switchSlot n)
      ((s.onCal (fun c => { c with tariff := some n, deciding := some d })).raise .tariffSwitch) := if_neg h

/-- R41: a fare lags when it follows the calendar under another tariff. -/
theorem Trip.lags_iff (t : Trip) (n : Nat) : t.lags n = true ↔ t.selection = .calendar ∧ t.currentTariff ≠ n := by
  simp [Trip.lags]

/-- R41, R77: a tariff switch starts a segment in each record that follows the calendar under another tariff. -/
theorem State.takeTariff_slot {s : State} {n : Nat} (d : Deciding) (h : s.cal.tariff ≠ some n) (i : Fin 4) :
    (s.takeTariff n d).slot i = (s.slot i).map (fun t =>
      if (t.state = .running ∨ t.state = .paused) ∧ t.selection = .calendar ∧ t.currentTariff ≠ n then
        startSegment s.store.active n s.cal.time t
      else t) := by
  rw [State.takeTariff_switch d h, State.forSwitch_slot]
  simp only [Trip.lags_iff]
  rfl

/-- Settles O35: the search over the windows, the image evaluated, and the two outcomes of an evaluation. -/
theorem evaluationNamesTheTariff : Obligations.EvaluationNamesTheTariff := by
  refine ⟨decideTariff_cases, fun w t m hm => ?_, fun s h => State.evaluate_unset h,
    fun s hc hs hv => State.scheduleImage_active hc hs hv, fun s img n d hi hd => ?_⟩
  · obtain rfl : m = t.minuteOfDay := hm
    exact w.contains_iff t
  · rw [State.evaluate_image hi hd]
    refine ⟨fun h => if_pos h, fun h => ⟨?_, ?_, fun i t ht => ?_, fun i hn => ?_⟩⟩
    · rw [State.takeTariff_switch d h]; rfl
    · rw [State.takeTariff_switch d h]; rfl
    · rw [State.takeTariff_slot d h, ht]; rfl
    · rw [State.takeTariff_slot d h, hn]; rfl

end Sys2Proof.Machine
end

section
/-! PROOFS. Accepted edges and the metres they raise (O47). -/

namespace Sys2Proof.Machine

/-! ### Metres (R51) -/

/-- R51: a metre is hired while a fare runs. -/
theorem hiredStep_running (s : State) : hiredStep (s.runningCount != 0) = if s.runningCount = 0 then 0 else 1 := by
  by_cases h : s.runningCount = 0 <;> simp [hiredStep, h]

/-- R51: below the cap a metre is counted. -/
theorem State.metre_counted {s : State} (h : s.dist.window < 90) : s.metre = s.countMetre := if_pos h

/-- R51, R52: a metre, counted or discarded, leaves the accumulator. -/
theorem State.metre_accumulator (s : State) : s.metre.dist.accumulator = s.dist.accumulator := by
  unfold State.metre
  split <;> rfl

/-! ### Edges (R49, R50) -/

/-- R50: an edge that leaves the accumulator below K. -/
theorem State.edge_below {k : Nat} {s : State} (h : s.dist.accumulator + 1000 < k) :
    s.edge k = { s with dist := { s.dist with accumulator := s.dist.accumulator + 1000 } } := if_neg (Nat.not_le.2 h)

/-- R50: an edge that takes the accumulator to K or past it raises one metre. -/
theorem State.edge_raises {k : Nat} {s : State} (h : k ≤ s.dist.accumulator + 1000) :
    s.edge k = (s.onDist (fun d => { d with accumulator := d.accumulator + 1000 - k })).metre := if_pos h

/-- R50, R51: below the cap that metre is counted. -/
theorem State.edge_counts {k : Nat} {s : State} (h : k ≤ s.dist.accumulator + 1000) (hc : s.dist.window < 90) :
    s.edge k = (s.onDist (fun d => { d with accumulator := d.accumulator + 1000 - k })).countMetre :=
  (State.edge_raises h).trans (State.metre_counted hc)

/-- R50: with K at least 1,000 the accumulator stays the remainder by K. -/
theorem State.edge_accumulator {k : Nat} {s : State} (hk : 1000 ≤ k) (h : s.dist.accumulator < k) :
    (s.edge k).dist.accumulator = (s.dist.accumulator + 1000) % k := by
  rcases Nat.lt_or_ge (s.dist.accumulator + 1000) k with hb | hb
  · rw [State.edge_below hb, Nat.mod_eq_of_lt hb]
  · rw [State.edge_raises hb, State.metre_accumulator, Nat.mod_eq_sub_mod hb, Nat.mod_eq_of_lt (by omega)]
    rfl

/-- R50: a run of edges leaves the remainder by K of all they added. -/
theorem State.edge_iterate_accumulator {k : Nat} {s : State} (hk : 1000 ≤ k) (h : s.dist.accumulator < k) (p : Nat) :
    ((State.edge k)^[p] s).dist.accumulator = (s.dist.accumulator + 1000 * p) % k := by
  induction p with
  | zero => exact (Nat.mod_eq_of_lt h).symm
  | succ p ih =>
    have hlt : ((State.edge k)^[p] s).dist.accumulator < k := ih ▸ Nat.mod_lt _ (by omega)
    rw [Function.iterate_succ_apply', State.edge_accumulator hk hlt, ih, Nat.mod_add_mod, Nat.mul_succ, Nat.add_assoc]

/-- R49: the edges accepted are those of the settings' kind, under power, with the sensor HEALTHY. -/
theorem State.accepts_iff (s : State) (e : PulseEdge) : s.accepts e = true ↔
    ∃ w, s.dist.settings = some w ∧ w.edge = e ∧ s.supply.power ≠ .holdover ∧ s.dist.faulted = false := by
  unfold State.accepts
  cases h : s.dist.settings with
  | none => simp
  | some w => simp [and_assoc]

theorem exec_acceptedEdge (e : PulseEdge) (s : State) : exec (.acceptedEdge e) s = execAcceptedEdge e s := rfl

theorem exec_acceptedEdge_accepted {e : PulseEdge} {w : Settings} {s : State} (hw : s.dist.settings = some w)
    (ha : s.accepts e = true) : exec (.acceptedEdge e) s = .next (s.edge w.pulsesPerKm) := by
  simp [exec_acceptedEdge, execAcceptedEdge, ha, Distance.constant, hw]

theorem exec_acceptedEdge_ignored {e : PulseEdge} {s : State} (h : ¬ s.accepts e = true) :
    exec (.acceptedEdge e) s = .next s := by
  rw [exec_acceptedEdge, execAcceptedEdge, if_neg h]

/-- Settles O47: an accepted edge below K and from K on, an edge not accepted, and the run of edges by induction. -/
theorem edgesBecomeMetres : Obligations.EdgesBecomeMetres := by
  refine ⟨fun e w s hw he hp hf => ?_, fun e s h => ?_, fun k p s hk h => State.edge_iterate_accumulator hk h p⟩
  · rw [exec_acceptedEdge_accepted hw ((s.accepts_iff e).2 ⟨w, hw, he, hp, hf⟩)]
    refine ⟨fun hb => by rw [State.edge_below hb], fun hb hc => congrArg Host.Outcome.next ?_⟩
    rw [State.edge_counts hb hc, State.countMetre, hiredStep_running]
    rfl
  · refine exec_acceptedEdge_ignored fun ha => ?_
    obtain ⟨w, hw, he, hp, hf⟩ := (s.accepts_iff e).1 ha
    rcases h with h | h | h | ⟨v, hv, hne⟩
    · simp [hw] at h
    · exact hp h
    · simp [hf] at h
    · exact hne (Option.some.inj (hw.symm.trans hv) ▸ he)

end Sys2Proof.Machine
end

section
/-! PROOFS. The metre discarded at the cap, the fault and recovery of the sensor, and the filters of the sensor, the service
switch and the ignition (O48, O49, O50). -/

namespace Sys2Proof.Machine

/-! ### The metre at the cap (R52) -/

/-- R52: at the cap a metre is discarded, and the overspeed mark is set. -/
theorem State.metre_discarded {s : State} (h : s.dist.window = 90) :
    s.metre = { s with dist := { s.dist with overspeed := true } } := if_neg (by simp [h, windowMax])

/-- Settles O48: the edge raises a metre, which the window discards at 90 and counts below. -/
theorem metreAtTheCapIsDiscarded : Obligations.MetreAtTheCapIsDiscarded := by
  intro e w s hw he hp hf hk
  have hedge := exec_acceptedEdge_accepted hw ((s.accepts_iff e).2 ⟨w, hw, he, hp, hf⟩)
  refine ⟨fun hcap => ?_, fun hc => ?_, State.closeSecond_slow⟩
  · exact hedge.trans (congrArg _ ((State.edge_raises hk).trans (State.metre_discarded hcap)))
  · exact ⟨_, hedge, by rw [State.edge_counts hk hc]; rfl, by rw [State.edge_counts hk hc]; rfl⟩

/-! ### The fault and the recovery of the sensor (R55, R56) -/

/-- R55: a fault marks the RUNNING and PAUSED fares, counts in the shift with its first stamp, and sets SENSOR. -/
theorem State.sensorFault_eq (s : State) : s.sensorFault = { s with
    dist := { s.dist with faulted := true, lowRun := 0, highRun := 0 }
    slots := (let f := Option.map (fun t : Trip =>
        if t.state = .running ∨ t.state = .paused then { t with distanceFault := true } else t)
      ⟨f s.slots.a0, f s.slots.a1, f s.slots.a2, f s.slots.a3⟩)
    shift := s.shift.map (fun sh =>
      { sh with sensorFaults := satAdd sh.sensorFaults 1, firstFault := some (sh.firstFault.getD s.cal.time) })
    dash := s.dash.raise .sensor } := rfl

/-- R56: a recovery clears the run counts and sets SENSOR. -/
theorem State.sensorRecovery_eq (s : State) : s.sensorRecovery = { s with
    dist := { s.dist with faulted := false, lowRun := 0, highRun := 0 }, dash := s.dash.raise .sensor } := rfl

/-- R49: with the settings present and under power, a HEALTHY sensor has the edges of the settings' kind accepted. -/
theorem State.accepts_working {s : State} {w : Settings} (hw : s.dist.settings = some w) (hp : s.supply.power ≠ .holdover) :
    s.accepts w.edge = !s.dist.faulted := by
  rw [Bool.eq_iff_iff, State.accepts_iff]
  simp [hw, hp]

/-! ### The samples of the sensor (R54) -/

theorem Distance.filter_absent {d : Distance} (h : d.settings = none) : d.filter = 20 := by simp [Distance.filter, h]

theorem Distance.filter_present {d : Distance} {w : Settings} (h : d.settings = some w) : d.filter = w.filter := by
  simp [Distance.filter, h]

/-- R54: the sensor is sampled outside HOLDOVER. -/
theorem exec_dsensSample {s : State} (hp : s.supply.power ≠ .holdover) (high : Bool) :
    exec (.dsensSample high) s = .next (s.sampleSensor high) := congrArg Host.Outcome.next (if_neg hp)

/-- R54: a low sample of a HEALTHY sensor raises the low run, and at the filter count is a fault. -/
theorem State.sampleSensor_healthy_low {s : State} (h : s.dist.faulted = false) :
    s.sampleSensor false = if s.dist.filter ≤ s.dist.lowRun + 1 then s.sensorFault
      else { s with dist := { s.dist with lowRun := s.dist.lowRun + 1 } } := by
  unfold State.sampleSensor; rw [h]; rfl

/-- R54: a high sample of a HEALTHY sensor sets the low run to 0. -/
theorem State.sampleSensor_healthy_high {s : State} (h : s.dist.faulted = false) :
    s.sampleSensor true = { s with dist := { s.dist with lowRun := 0 } } := by
  unfold State.sampleSensor; rw [h]; rfl

/-- R56: a high sample of a FAULTED sensor raises the high run, and at the filter count is the recovery. -/
theorem State.sampleSensor_faulted_high {s : State} (h : s.dist.faulted = true) :
    s.sampleSensor true = if s.dist.filter ≤ s.dist.highRun + 1 then s.sensorRecovery
      else { s with dist := { s.dist with highRun := s.dist.highRun + 1 } } := by
  unfold State.sampleSensor; rw [h]; rfl

/-- R56: a low sample of a FAULTED sensor sets the high run to 0. -/
theorem State.sampleSensor_faulted_low {s : State} (h : s.dist.faulted = true) :
    s.sampleSensor false = { s with dist := { s.dist with highRun := 0 } } := by
  unfold State.sampleSensor; rw [h]; rfl

/-- R54: the low sample at which a HEALTHY sensor's run reaches the filter count is a fault. -/
theorem exec_dsensSample_fault {s : State} (hp : s.supply.power ≠ .holdover) (h : s.dist.faulted = false)
    (hn : s.dist.filter ≤ s.dist.lowRun + 1) : exec (.dsensSample false) s = .next s.sensorFault := by
  rw [exec_dsensSample hp, State.sampleSensor_healthy_low h, if_pos hn]

/-- R56: the high sample at which a FAULTED sensor's run reaches the filter count is the recovery. -/
theorem exec_dsensSample_recovery {s : State} (hp : s.supply.power ≠ .holdover) (h : s.dist.faulted = true)
    (hn : s.dist.filter ≤ s.dist.highRun + 1) : exec (.dsensSample true) s = .next s.sensorRecovery := by
  rw [exec_dsensSample hp, State.sampleSensor_faulted_high h, if_pos hn]

/-! ### The samples of the service switch (R82, R83) -/

/-- R82: the service switch is sampled outside HOLDOVER. -/
theorem exec_svcSample {s : State} (hp : s.supply.power ≠ .holdover) (high : Bool) :
    exec (.svcSample high) s = .next (s.sampleSwitch high) := congrArg Host.Outcome.next (if_neg hp)

theorem Store.sampleSwitch_agrees (t : Store) : t.sampleSwitch t.switchOpen = { t with switchRun := 0 } := by
  unfold Store.sampleSwitch
  cases t.switchOpen <;> rfl

theorem Store.sampleSwitch_below {t : Store} {high : Bool} (h : t.switchOpen ≠ high) (hr : t.switchRun < 2) :
    t.sampleSwitch high = { t with switchRun := t.switchRun + 1 } := by
  have hn : ¬ switchSamples ≤ t.switchRun + 1 := by simp only [switchSamples]; omega
  unfold Store.sampleSwitch
  cases ho : t.switchOpen <;> cases high
  · exact absurd ho h
  · exact if_neg hn
  · exact if_neg hn
  · exact absurd ho h

theorem Store.sampleSwitch_opens {t : Store} (h : t.switchOpen = false) (hr : t.switchRun = 2) :
    t.sampleSwitch true = { t with switchOpen := true, switchRun := 0 } := by
  unfold Store.sampleSwitch; rw [h]; exact if_pos (by simp [switchSamples, hr])

theorem Store.sampleSwitch_closes {t : Store} (h : t.switchOpen = true) (hr : t.switchRun = 2) :
    t.sampleSwitch false = { t with switchOpen := false, switchRun := 0, latch := false } := by
  unfold Store.sampleSwitch; rw [h]; exact if_pos (by simp [switchSamples, hr])

/-- R83: a sample after which the switch is not newly OPEN moves the store alone. -/
theorem State.sampleSwitch_quiet {s : State} {high : Bool} {t : Store} (ht : s.store.sampleSwitch high = t)
    (h : s.store.switchOpen = true ∨ t.switchOpen = false) : s.sampleSwitch high = { s with store := t } := by
  subst ht
  refine if_neg ?_
  rcases h with h | h <;> simp [opened, h]

/-- R83: the sample that opens the switch counts the opening and sets SERVICE. -/
theorem State.sampleSwitch_opens {s : State} (h : s.store.switchOpen = false) (hr : s.store.switchRun = 2) :
    s.sampleSwitch true = { s with
      store := { s.store with switchOpen := true, switchRun := 0 }
      tot := { s.tot with serviceOpenings := satAdd s.tot.serviceOpenings 1 }
      dash := s.dash.raise .service } := by
  have ht := Store.sampleSwitch_opens h hr
  rw [State.sampleSwitch, ht, if_pos (by simp [opened, h]), State.onStore, ht]
  rfl

/-! ### The samples of the ignition (R170, R174) -/

/-- R170: the ignition is sampled outside HOLDOVER. -/
theorem exec_ignSample {s : State} (hp : s.supply.power ≠ .holdover) (high : Bool) :
    exec (.ignSample high) s = .next (s.sampleIgnition high) := congrArg Host.Outcome.next (if_neg hp)

theorem Supply.sampleIgnition_agrees (u : Supply) : u.sampleIgnition u.ignitionOn = { u with ignitionRun := 0 } :=
  if_pos rfl

theorem Supply.sampleIgnition_below {u : Supply} {high : Bool} (h : u.ignitionOn ≠ high) (hr : u.ignitionRun < 4) :
    u.sampleIgnition high = { u with ignitionRun := u.ignitionRun + 1 } := by
  rw [Supply.sampleIgnition, if_neg (Ne.symm h), if_neg (by simp only [ignitionSamples]; omega)]

theorem Supply.sampleIgnition_changes {u : Supply} {high : Bool} (h : u.ignitionOn ≠ high) (hr : u.ignitionRun = 4) :
    u.sampleIgnition high = { u with ignitionOn := high, ignitionRun := 0, offTimer := 0 } := by
  rw [Supply.sampleIgnition, if_neg (Ne.symm h), if_pos (by simp [ignitionSamples, hr])]

/-- R174: a sample after which the ignition is not newly ON wakes nothing. -/
theorem State.sampleIgnition_quiet {s : State} {high : Bool} {u : Supply} (hu : s.supply.sampleIgnition high = u)
    (h : s.supply.ignitionOn = true ∨ u.ignitionOn = false) : s.sampleIgnition high = { s with supply := u } := by
  subst hu
  refine if_neg ?_
  rcases h with h | h <;> simp [ignitionCameOn, h]

/-- R174: the sample that brings the ignition ON wakes a part in STANDBY. -/
theorem State.sampleIgnition_wakes {s : State} (h : s.supply.ignitionOn = false) (hr : s.supply.ignitionRun = 4) :
    s.sampleIgnition true =
      State.wakeIfStandby { s with supply := { s.supply with ignitionOn := true, ignitionRun := 0, offTimer := 0 } } := by
  have hu := Supply.sampleIgnition_changes (u := s.supply) (high := true) (by simp [h]) hr
  rw [State.sampleIgnition, hu, if_pos (by simp [ignitionCameOn, h]), State.onSupply, hu]

/-! ### O49, O50 -/

/-- R54, R55: the samples of the sensor under its filter count. -/
theorem sensorSamples_filtered {s : State} (hp : s.supply.power ≠ .holdover) :
    (s.dist.faulted = true → s.dist.highRun + 1 < s.dist.filter →
      exec (.dsensSample true) s = .next { s with dist := { s.dist with highRun := s.dist.highRun + 1 } })
    ∧ (s.dist.faulted = true → exec (.dsensSample false) s = .next { s with dist := { s.dist with highRun := 0 } })
    ∧ (s.dist.faulted = false → s.dist.lowRun + 1 < s.dist.filter →
      exec (.dsensSample false) s = .next { s with dist := { s.dist with lowRun := s.dist.lowRun + 1 } })
    ∧ (s.dist.faulted = false → exec (.dsensSample true) s = .next { s with dist := { s.dist with lowRun := 0 } }) := by
  refine ⟨fun hf hn => ?_, fun hf => ?_, fun hf hn => ?_, fun hf => ?_⟩
  · rw [exec_dsensSample hp, State.sampleSensor_faulted_high hf, if_neg (Nat.not_le.2 hn)]
  · rw [exec_dsensSample hp, State.sampleSensor_faulted_low hf]
  · rw [exec_dsensSample hp, State.sampleSensor_healthy_low hf, if_neg (Nat.not_le.2 hn)]
  · rw [exec_dsensSample hp, State.sampleSensor_healthy_high hf]

/-- Settles O49: the samples of each line below its filter count, with its state, and at the count. -/
theorem linesAreFiltered : Obligations.LinesAreFiltered := by
  refine ⟨fun n s hp hn => ?_, fun s hp => ?_⟩
  · obtain rfl : n = s.dist.filter := by rw [hn, Distance.filter]; cases s.dist.settings <;> rfl
    obtain ⟨hfh, hfl, hhl, hhh⟩ := sensorSamples_filtered hp
    refine ⟨hfh, hfl, hhl, hhh, fun hf hn => ?_⟩
    rw [exec_dsensSample_fault hp hf hn, State.sensorFault_eq]
    congr 2
    refine congrArg (Option.map · s.shift) (funext fun sh => ?_)
    cases sh.firstFault <;> rfl
  · simp only [exec_svcSample hp, exec_ignSample hp]
    refine ⟨fun ho hr => ?_, fun ho hr => ?_, fun b hb hr => ?_, ?_, fun b hb hr => ?_, ?_, fun ho hr => ?_, fun ho hr => ?_⟩
    · rw [State.sampleSwitch_opens ho hr]
    · rw [State.sampleSwitch_quiet (Store.sampleSwitch_closes ho hr) (.inr rfl)]
    · rw [State.sampleSwitch_quiet (Store.sampleSwitch_below hb hr) (Bool.eq_false_or_eq_true _)]
    · rw [State.sampleSwitch_quiet s.store.sampleSwitch_agrees (Bool.eq_false_or_eq_true _)]
    · rw [State.sampleIgnition_quiet (Supply.sampleIgnition_below hb hr) (Bool.eq_false_or_eq_true _)]
    · rw [State.sampleIgnition_quiet s.supply.sampleIgnition_agrees (Bool.eq_false_or_eq_true _)]
    · rw [State.sampleIgnition_quiet (Supply.sampleIgnition_changes (by simp [ho]) hr) (.inr rfl)]
    · rw [State.sampleIgnition_wakes ho hr]
      rfl

/-- Settles O50: the recovery at the filter count, with the settings or without, and a fault after it. -/
theorem sensorRecoveryIsFiltered : Obligations.SensorRecoveryIsFiltered := by
  refine ⟨fun s hp hw hf hn => ?_, fun n w s hp hw hn => ⟨fun hf hr => ?_, fun hf => ?_, fun hf hr => ?_⟩⟩
  · exact exec_dsensSample_recovery hp hf (by rw [Distance.filter_absent hw, hn])
  · refine ⟨_, exec_dsensSample_recovery hp hf (by rw [Distance.filter_present hw, hr, hn]), rfl, rfl, ?_, ?_⟩
    · rw [State.accepts_working (s := s.sensorRecovery) hw hp]
      rfl
    · exact DashLink.isPending_raise_of (.inr rfl)
  · rw [State.accepts_working hw hp, hf]
    rfl
  · refine ⟨_, exec_dsensSample_fault hp hf (by rw [Distance.filter_present hw, hr, hn]), rfl, rfl, rfl, fun sh hsh => ?_⟩
    exact ⟨_, by rw [State.sensorFault_eq, hsh]; rfl, rfl⟩

end Sys2Proof.Machine
end

section
/-! PROOFS. The cold start, block by block (O59). -/

namespace Sys2Proof.Machine

/-- R177: a cold start, block by block. With no shift the sign shows OFF_DUTY (R140). -/
theorem State.coldStart_eq (s : State) : s.coldStart =
    { slots := ⟨none, none, none, none⟩
      cal := coldCalendar
      dist := coldDistanceFrom s.store.valid s.store.active
      store := s.store.cold.beginMirror (coldTotals s.store)
      ic := coldIntercom
      sign := { coldSign with shown := .offDuty }
      shift := none
      prev := none
      tot := coldTotals s.store
      supply := coldSupply
      dash := (if s.store.marker = some .commit then (coldDash s.dash.drstLow).raise .commitFailed
        else coldDash s.dash.drstLow).raise .supply
      link := coldLink
      pending := s.pending } := by
  by_cases h : s.store.marker = some .commit
  · rw [State.coldStart, h, if_pos rfl]
    rfl
  · have hb : (s.store.marker == some .commit) = false := by simpa using h
    rw [State.coldStart, hb, if_neg h]
    rfl

/-- R96, R177: after a cold start SUPPLY is pending, and COMMIT_FAILED where a commit write was cut off. -/
theorem State.coldStart_events (s : State) : s.coldStart.dash.isPending .supply = true
    ∧ (s.coldStart.dash.isPending .commitFailed = true ↔ s.store.marker = some .commit) := by
  rw [State.coldStart_eq]
  simp only [DashLink.isPending_raise]
  by_cases h : s.store.marker = some .commit
  · simp [h, DashLink.isPending_raise]
  · simp [h, coldDash, DashLink.isPending]

/-- R177: the main supply's return with the retention mark not intact is a cold start. -/
theorem exec_coldStart {s : State} (hp : s.supply.power = .holdover) (hr : s.supply.retention = false) :
    exec .coldStart s = .next s.coldStart := congrArg Host.Outcome.next (if_pos ⟨hp, hr⟩)

/-- Settles O59: the blocks of the next state, each read off, and the whole of it from the unwritten store. -/
theorem coldStartBeginsAgain : Obligations.ColdStartBeginsAgain := by
  refine ⟨fun s hp hr => ⟨_, exec_coldStart hp hr, ?_⟩, fun s hp hr hs hd hq => ?_⟩
  · have hevents := s.coldStart_events
    rw [State.coldStart_eq] at hevents ⊢
    obtain ⟨hsupply, hfailed⟩ := hevents
    refine ⟨rfl, rfl, rfl, rfl, rfl, rfl, rfl, rfl, rfl, rfl, rfl, ⟨_, rfl, rfl⟩, rfl, rfl, rfl, rfl, rfl, rfl, rfl, rfl,
      rfl, rfl, rfl, rfl, ?_, rfl, ?_, ?_, ?_, hsupply, hfailed, rfl⟩
    · simp [coldSign, coldLamp, Lamps.list]
    · simp only [DashLink.raise_frame]
      split <;> rfl
    · simp only [DashLink.raise_watch]
      split <;> rfl
    · simp only [DashLink.raise_mask]
      split <;> rfl
  · rw [exec_coldStart hp hr, State.coldStart_eq, hs, hd, hq]
    rfl

end Sys2Proof.Machine
end

section
/-! SUPPORT. What the shared operations do at a supply return: the RELEASE_HOLDs posted again for both stations, an evaluation
outside a commit write, and the write marker resolved (for O58). -/

namespace Sys2Proof.Machine

/-! ### The RELEASE_HOLDs posted again (R189) -/

theorem awaitsRelease_iff (x : Station) (t : Trip) :
    awaitsRelease x t = true ↔ ∃ h, t.hold = some h ∧ h.state = .releasePending ∧ h.station = x := by
  unfold awaitsRelease
  cases t.hold <;> simp

/-- R188: a RELEASE_HOLD has the highest rank, so that every notice gives way to it. -/
theorem givesWay_releaseNotice (old : Option Notice) (t : Trip) : givesWay old (releaseNotice t) = true := by
  have hrank : (releaseNotice t).rank = 5 := by unfold releaseNotice; split <;> rfl
  cases old with
  | none => rfl
  | some o => rw [givesWay, hrank]; cases o <;> rfl

/-- R189: what is posted again for a station stands in its slot; with nothing posted the slot is as it was. -/
theorem State.repost_notice (x : Station) (s : State) : (s.repost x).link.notices.get x =
    ((lowestTrip (s.trips.filter (awaitsRelease x))).map releaseNotice).or (s.link.notices.get x) := by
  unfold State.repost
  cases lowestTrip (s.trips.filter (awaitsRelease x)) with
  | none => rfl
  | some t =>
    refine (congrArg (Sides.get · x) (PartitionLink.post_notices s.link x (releaseNotice t))).trans ?_
    rw [if_pos (givesWay_releaseNotice _ t)]
    exact Sides.get_set_same _ _ _

/-- R189: with both stations looked at, each slot is as the look at its own station leaves it. -/
theorem State.repostBoth_notice (x : Station) (s : State) :
    s.repostBoth.link.notices.get x = (s.repost x).link.notices.get x := by
  cases x with
  | left => exact State.repost_notices_other .right (s.repost .left)
  | right =>
    have htrips : (s.repost .left).trips = s.trips := by simp only [State.trips, State.repost_slots]
    rw [State.repostBoth, State.repost_notice, State.repost_notice, htrips]
    exact congrArg _ (State.repost_notices_other .left s)

/-- R189: into empty slots a notice is posted again exactly for the stations with a pending hold. -/
theorem State.repostBoth_isSome {s : State} {x : Station} (hn : s.link.notices.get x = none) :
    (s.repostBoth.link.notices.get x).isSome = true
      ↔ ∃ i v h, s.slot i = some v ∧ v.hold = some h ∧ h.state = .releasePending ∧ h.station = x := by
  rw [State.repostBoth_notice, State.repost_notice, hn, Option.or_none, Option.isSome_map]
  constructor
  · intro h
    obtain ⟨t, ht⟩ := Option.isSome_iff_exists.1 h
    obtain ⟨hm, ha⟩ := List.mem_filter.1 (lowestTrip_some ht).1
    obtain ⟨i, hi⟩ := (s.mem_trips t).1 hm
    obtain ⟨g, hg⟩ := (awaitsRelease_iff x t).1 ha
    exact ⟨i, t, g, hi, hg⟩
  · rintro ⟨i, v, g, hi, hg⟩
    have hm : v ∈ s.trips.filter (awaitsRelease x) :=
      List.mem_filter.2 ⟨(s.mem_trips v).2 ⟨i, hi⟩, (awaitsRelease_iff x v).2 ⟨g, hg⟩⟩
    obtain ⟨t, ht⟩ := lowestTrip_isSome (List.ne_nil_of_mem hm)
    rw [ht]
    rfl

/-- R189: the notice posted again is that of the station's pending hold whose fare has the lowest trip number. -/
theorem State.repostBoth_lowest {s : State} {x : Station} {i : Fin 4} {t : Trip} {g : Hold}
    (hn : s.link.notices.get x = none) (ht : s.slot i = some t) (hg : t.hold = some g) (hp : g.state = .releasePending)
    (hx : g.station = x)
    (hl : ∀ j v k, s.slot j = some v → v.hold = some k → k.state = .releasePending → k.station = x → j ≠ i →
      t.number < v.number) :
    s.repostBoth.link.notices.get x = some (.releaseHold t.number g.reference g.amount) := by
  rw [State.repostBoth_notice, State.repost_lowest ht hg hp hx hl]
  refine (congrArg (Sides.get · x) (PartitionLink.post_notices _ _ _)).trans ?_
  rw [if_pos (by rw [hn]; rfl)]
  exact Sides.get_set_same _ _ _

/-- R187: a notice posted begins no read. -/
theorem PartitionLink.post_read {p : PartitionLink} (h : p.read = none) (x : Station) (n : Notice) :
    (p.post x n).read = none := by
  unfold PartitionLink.post
  split
  · simp [PartitionLink.put, h]
  · exact h

/-- R187, R189: a look at a station leaves the selector, and begins no read. -/
theorem State.repost_link (x : Station) (s : State) :
    (s.repost x).link.selector = s.link.selector ∧ (s.link.read = none → (s.repost x).link.read = none) := by
  unfold State.repost
  split
  · exact ⟨PartitionLink.post_selector _ _ _, fun h => PartitionLink.post_read h _ _⟩
  · exact ⟨rfl, id⟩

theorem State.repostBoth_link (s : State) :
    s.repostBoth.link.selector = s.link.selector ∧ (s.link.read = none → s.repostBoth.link.read = none) := by
  obtain ⟨hl, hlr⟩ := s.repost_link .left
  obtain ⟨hr, hrr⟩ := (s.repost .left).repost_link .right
  exact ⟨hr.trans hl, fun h => hrr (hlr h)⟩

/-! ### The evaluation (R76, R77) -/

/-- R76: outside a commit write an evaluation reads the active image, with the clock set and the image VALID. -/
theorem State.scheduleImage_eq {s : State} (h : s.store.state ≠ .commitWrite) :
    s.scheduleImage = if s.cal.clockSet = true ∧ s.store.valid = true then some s.store.active else none := by
  unfold State.scheduleImage
  split
  next hc =>
    split
    next hs _ => exact absurd hs h
    next hs _ => exact absurd hs h
    next => simp [hc]
  next hc => simp [hc]

/-- R76, R77: with the calendar tariff absent, an evaluation names one exactly when it reads an image. -/
theorem State.evaluate_tariff_isSome {s : State} (h : s.cal.tariff = none) :
    s.evaluate.cal.tariff.isSome = s.scheduleImage.isSome := by
  unfold State.evaluate
  cases s.scheduleImage with
  | none => simp [h]
  | some img =>
    dsimp only
    rw [State.takeTariff_switch _ (by simp [h])]
    rfl

/-- R77: an evaluation leaves the stamp. -/
theorem State.evaluate_time (s : State) : s.evaluate.cal.time = s.cal.time := by
  rcases State.evaluate_cases s with e | ⟨d, e⟩ | ⟨n, d, -, e⟩
  · rw [e]
  · rw [e]
  · rw [e]; simp [forSlots]

/-- R43, R77: what is read of a record beside its segments, progress and remainder is as it was before the evaluation. -/
theorem State.evaluate_map {α : Type} (f : Trip → α)
    (hf : ∀ (t : Trip) g b p r,
      f { t with segments := g, segmentsFull := b, progress := p, remainder := r } = f t)
    (s : State) (i : Fin 4) : (s.evaluate.slot i).map f = (s.slot i).map f := by
  cases h : s.slot i with
  | none =>
    have hs := s.evaluate_shapes i
    rw [h, Option.map_none, Option.map_eq_none_iff] at hs
    rw [hs]
  | some t =>
    obtain ⟨u, hu, e⟩ := State.evaluate_record h
    rw [hu, Option.map_some, Option.map_some, e, hf]

/-! ### The write marker (R96) -/

/-- R96: the store with its write marker resolved: that of a commit write dropped, that of a mirror write a new write. -/
def Store.resolved (tot : Totalizers) (t : Store) : Store :=
  match t.marker with
  | none => t
  | some .commit => { t with marker := none }
  | some .mirror => t.beginMirror tot

theorem Store.resolved_commit {t : Store} (tot : Totalizers) (h : t.marker = some .commit) :
    t.resolved tot = { t with marker := none } := by
  rw [Store.resolved, h]

theorem Store.resolved_mirror {t : Store} (tot : Totalizers) (h : t.marker = some .mirror) :
    t.resolved tot = t.beginMirror tot := by
  rw [Store.resolved, h]

/-- R94, R96: the calendar after the marker is resolved: an interrupted commit leaves no tariff. -/
def Calendar.resolved (marker : Option Marker) (c : Calendar) : Calendar :=
  if marker = some .commit then c.noTariff else c

theorem Calendar.resolved_time (marker : Option Marker) (c : Calendar) : (c.resolved marker).time = c.time := by
  unfold Calendar.resolved
  split <;> rfl

/-- R94, R96: the dashboard link after the marker is resolved: an interrupted commit sets COMMIT_FAILED. -/
def DashLink.resolved (marker : Option Marker) (d : DashLink) : DashLink :=
  if marker = some .commit then d.raise .commitFailed else d

/-- R96: the resolution of the marker, block by block. -/
theorem State.resolveMarker_eq (s : State) : s.resolveMarker = { s with
    store := s.store.resolved s.tot, cal := s.cal.resolved s.store.marker, dash := s.dash.resolved s.store.marker } := by
  unfold State.resolveMarker Store.resolved
  split
  next h => rw [h]; rfl
  next h => rw [h]; rfl
  next h => rw [h]; rfl

/-- R96: the resolution of the marker leaves the image with its flag and version, and the switch. -/
theorem Store.resolved_frame (tot : Totalizers) (t : Store) :
    (t.resolved tot).active = t.active ∧ (t.resolved tot).valid = t.valid ∧ (t.resolved tot).version = t.version
      ∧ (t.resolved tot).switchOpen = t.switchOpen := by
  unfold Store.resolved
  split <;> exact ⟨rfl, rfl, rfl, rfl⟩

/-- R96: no commit write is in progress once the marker of an IDLE store is resolved. -/
theorem Store.resolved_state {t : Store} (tot : Totalizers) (h : t.state = .idle) :
    (t.resolved tot).state ≠ .commitWrite := by
  unfold Store.resolved
  split <;> simp [h, Store.beginMirror]

end Sys2Proof.Machine
end

section
/-! PROOFS. The supply return, block by block (O58). -/

namespace Sys2Proof.Machine

/-! ### The state that the evaluation finds (R176, steps 1 to 3) -/

/-- R176: the totalizers at a return, with the interruption counted. -/
def Totalizers.interrupted (c : Totalizers) : Totalizers :=
  { c with supplyInterruptions := satAdd c.supplyInterruptions 1 }

/-- R176: the part as the evaluation of a return finds it. -/
def State.restored (s : State) : State :=
  { s with
    store := s.store.resolved s.tot.interrupted
    cal := s.cal.resolved s.store.marker
    dash := s.dash.returned.resolved s.store.marker
    tot := s.tot.interrupted
    dist := s.dist.return s.store.valid s.store.active }

theorem State.returnStores_eq (s : State) : s.returnStores = s.restored.evaluate := by
  rw [State.returnStores, State.resolveMarker_eq]
  rfl

/-- R76, R96: the evaluation of a return leaves the calendar and the slots that it leaves of the store before the marker is
resolved, with the calendar of after it. -/
theorem State.restored_evaluate {s u : State} (hi : s.store.state = .idle)
    (hu : u = { s with cal := s.cal.resolved s.store.marker }) :
    s.restored.evaluate.cal = u.evaluate.cal ∧ s.restored.evaluate.slots = u.evaluate.slots := by
  obtain ⟨hactive, hvalid, -, -⟩ := s.store.resolved_frame s.tot.interrupted
  have hcal : s.restored.cal = u.cal := by rw [hu]; rfl
  have hstore : u.store = s.store := by rw [hu]
  have himage : s.restored.scheduleImage = u.scheduleImage := by
    rw [State.scheduleImage_eq (Store.resolved_state _ hi), State.scheduleImage_eq (by simp [hstore, hi]), hcal, hstore,
      ← hactive, ← hvalid]
    rfl
  obtain ⟨hc, hslot⟩ := State.evaluate_congr hcal himage (by rw [hstore]; exact hactive)
  exact ⟨hc, Four.ext_get _ _ fun j => hslot j (by rw [hu]; rfl)⟩

/-! ### The state that a return leaves -/

/-- R176: the values that step 5 of a return gives the blocks, before any notice is posted again. -/
def State.blocksReset (s : State) : State :=
  { s with
    store := s.store.returned
    ic := s.ic.allIdle.trackersLong
    sign := s.sign.returned
    link := s.link.emptied.selectLeft }

/-- R176: the state that a supply return leaves. -/
def State.resumed (s : State) : State := s.returnStores.returnBlocks.returnPower

theorem State.returnBlocks_eq (s : State) : s.returnBlocks = s.blocksReset.repostBoth := rfl

/-- R176: a return evaluates, sets the blocks, posts again, becomes ACTIVE with its sign derived, and sets SUPPLY. -/
theorem State.resumed_eq (s : State) : s.resumed = ((s.restored.evaluate.blocksReset.repostBoth.onSupply
    (fun u => { u with power := .active, ignitionRun := 0, lastCold := false })).followSign).raise .supply := by
  rw [State.resumed, State.returnStores_eq, State.returnBlocks_eq, State.returnPower]

/-- R176: the main supply's return with the retention mark intact. -/
theorem exec_supplyReturn {s : State} (hp : s.supply.power = .holdover) (hr : s.supply.retention = true) :
    exec .supplyReturn s = .next s.resumed := congrArg Host.Outcome.next (if_pos ⟨hp, hr⟩)

theorem State.resumed_slots (s : State) : s.resumed.slots = s.restored.evaluate.slots := by
  simp [State.resumed_eq, State.blocksReset]

theorem State.resumed_cal (s : State) : s.resumed.cal = s.restored.evaluate.cal := by
  simp [State.resumed_eq, State.blocksReset]

theorem State.resumed_dist (s : State) : s.resumed.dist = s.dist.return s.store.valid s.store.active := by
  simp [State.resumed_eq, State.blocksReset, State.restored]

theorem State.resumed_store (s : State) : s.resumed.store = (s.store.resolved s.tot.interrupted).returned := by
  simp [State.resumed_eq, State.blocksReset, State.restored]

/-- R97: of the store a return keeps the image's flag and version and the switch, and clears the rest of its volatile part. -/
theorem State.resumed_store_frame (s : State) : s.resumed.store.latch = false ∧ s.resumed.store.stagingLoaded = false
    ∧ s.resumed.store.switchOpen = s.store.switchOpen ∧ s.resumed.store.switchRun = 0
    ∧ s.resumed.store.valid = s.store.valid ∧ s.resumed.store.version = s.store.version := by
  obtain ⟨-, hvalid, hversion, hopen⟩ := s.store.resolved_frame s.tot.interrupted
  rw [State.resumed_store]
  exact ⟨rfl, rfl, hopen, rfl, hvalid, hversion⟩

theorem State.resumed_ic (s : State) : s.resumed.ic = s.ic.allIdle.trackersLong := by
  simp [State.resumed_eq, State.blocksReset, State.restored]

theorem State.resumed_shifts (s : State) : s.resumed.shift = s.shift ∧ s.resumed.prev = s.prev := by
  simp [State.resumed_eq, State.blocksReset, State.restored]

theorem State.resumed_tot (s : State) : s.resumed.tot = s.tot.interrupted := by
  simp [State.resumed_eq, State.blocksReset, State.restored]

theorem State.resumed_supply (s : State) :
    s.resumed.supply = { s.supply with power := .active, ignitionRun := 0, lastCold := false } := by
  simp [State.resumed_eq, State.blocksReset, State.restored]

theorem State.resumed_dash (s : State) : s.resumed.dash = s.restored.evaluate.dash.raise .supply := by
  simp [State.resumed_eq, State.blocksReset]

/-- R176, R189: the partition link is emptied, its selector set to L, and the pending RELEASE_HOLDs posted again. -/
theorem State.resumed_link (s : State) : s.resumed.link = s.restored.evaluate.blocksReset.repostBoth.link := by
  simp [State.resumed_eq]

/-! ### The sign (R141, R150) -/

/-- R141: the derivation of the sign leaves the duty and the filter setting. -/
theorem State.followSign_settings (s : State) :
    s.followSign.sign.duty = s.sign.duty ∧ s.followSign.sign.filter = s.sign.filter := by
  unfold State.followSign
  split
  · exact ⟨rfl, rfl⟩
  · simp only [State.onSign, Sign.change]
    split <;> exact ⟨rfl, rfl⟩

/-- R141: the sign does not rest on the events. -/
theorem SignFollows.raise {s : State} (h : SignFollows s) (e : Event) : SignFollows (s.raise e) := h

/-- R141, R150: after a return the sign follows its inputs, its duty and latch kept, its filter setting and tracker new. -/
theorem State.resumed_sign (s : State) : SignFollows s.resumed ∧ s.resumed.sign.filter = 4 ∧ s.resumed.sign.tracker = .up
    ∧ s.resumed.sign.duty = s.sign.duty ∧ s.resumed.sign.latch = s.sign.latch := by
  have hsign : s.restored.evaluate.blocksReset.repostBoth.sign = s.sign.returned := by
    simp [State.blocksReset, State.restored]
  rw [State.resumed_eq]
  refine ⟨SignFollows.raise (State.followSign_follows _) _, ?_⟩
  rw [State.raise_sign, (State.followSign_settings _).1, (State.followSign_settings _).2, (State.followSign_inputs _).1,
    (State.followSign_inputs _).2, State.onSupply_sign, hsign]
  exact ⟨rfl, rfl, rfl, rfl⟩

/-! ### The distance unit (R48, R58) -/

/-- R48, R58: at a return the settings are those of a VALID image, where a new K sets the accumulator to 0, and both run
counts are 0. -/
theorem Distance.return_eq (valid : Bool) (img : Image) (d : Distance) : d.return valid img =
    { d with
      settings := if valid = true then some (imageSettings img) else d.settings
      accumulator := if valid = true ∧ d.constant ≠ some img.pulsesPerKm then 0 else d.accumulator
      lowRun := 0
      highRun := 0 } := by
  cases valid
  · rfl
  · by_cases h : d.constant = some img.pulsesPerKm <;> simp [Distance.return, Distance.take, h]

/-! ### The events (R181, R182) -/

/-- R182: of the dashboard link a return leaves no frame, no watch and every event enabled. -/
theorem State.resumed_frame (s : State) :
    s.resumed.dash.mask = 0xFFFF ∧ s.resumed.dash.frame = .idle ∧ s.resumed.dash.watch = none := by
  have h : s.restored.dash.mask = 0xFFFF ∧ s.restored.dash.frame = .idle ∧ s.restored.dash.watch = none := by
    simp only [State.restored, DashLink.resolved]
    split <;> exact ⟨rfl, rfl, rfl⟩
  rw [State.resumed_dash, State.evaluate_dash]
  split <;> exact h

/-- R94, R96: where the marker is resolved nothing is pending but COMMIT_FAILED of an interrupted commit. -/
theorem State.restored_isPending (s : State) (e : Event) :
    s.restored.dash.isPending e = true ↔ s.store.marker = some .commit ∧ e = .commitFailed := by
  have hnone : s.dash.returned.isPending e = false := by simp [DashLink.isPending, DashLink.returned]
  simp only [State.restored, DashLink.resolved]
  split
  next h => simp [DashLink.isPending_raise, hnone, h, eq_comm (a := Event.commitFailed)]
  next h => simp [hnone, h]

/-- R176, R181: the events pending after a return. -/
theorem State.resumed_isPending (s : State) (e : Event) : s.resumed.dash.isPending e = true ↔
    (s.store.marker = some .commit ∧ e = .commitFailed)
      ∨ (s.restored.evaluate.cal.tariff ≠ s.restored.cal.tariff ∧ e = .tariffSwitch) ∨ e = .supply := by
  rw [State.resumed_dash, DashLink.isPending_raise, State.evaluate_dash, Bool.or_eq_true, beq_iff_eq, ← or_assoc,
    eq_comm (a := Event.supply)]
  refine or_congr_left ?_
  rw [← State.restored_isPending]
  split
  next h => simp [h]
  next h => simp [DashLink.isPending_raise, h, eq_comm (a := Event.tariffSwitch)]

/-! ### The records and the notices (R77, R120, R189) -/

/-- What the posting of a RELEASE_HOLD reads of a record: its number and its hold. -/
def Trip.claim (t : Trip) : Nat × Option Hold := (t.number, t.hold)

/-- R77, R176: a return leaves of each record its number and its hold. -/
theorem State.blocksReset_claim (s : State) (i : Fin 4) :
    (s.restored.evaluate.blocksReset.slot i).map Trip.claim = (s.slot i).map Trip.claim :=
  State.evaluate_map Trip.claim (fun _ _ _ _ _ => rfl) s.restored i

/-- Of two slots that agree in number and hold, a record in the one is matched by a record in the other. -/
theorem slot_of_claim {a b : Option Trip} {v : Trip} (h : a.map Trip.claim = b.map Trip.claim) (hb : b = some v) :
    ∃ w, a = some w ∧ w.number = v.number ∧ w.hold = v.hold := by
  subst hb
  obtain ⟨w, hw, e⟩ := Option.map_eq_some_iff.1 h
  exact ⟨w, hw, congrArg Prod.fst e, congrArg Prod.snd e⟩

/-- R189: after a return a notice slot holds a notice exactly where the station has a pending hold. -/
theorem State.resumed_notice_isSome (s : State) (x : Station) : (s.resumed.link.notices.get x).isSome = true
    ↔ ∃ i v h, s.slot i = some v ∧ v.hold = some h ∧ h.state = .releasePending ∧ h.station = x := by
  rw [State.resumed_link, State.repostBoth_isSome (by cases x <;> rfl)]
  constructor
  · rintro ⟨i, v, h, hv, hh, hp⟩
    obtain ⟨w, hw, -, hwh⟩ := slot_of_claim (s.blocksReset_claim i).symm hv
    exact ⟨i, w, h, hw, hwh.trans hh, hp⟩
  · rintro ⟨i, v, h, hv, hh, hp⟩
    obtain ⟨w, hw, -, hwh⟩ := slot_of_claim (s.blocksReset_claim i) hv
    exact ⟨i, w, h, hw, hwh.trans hh, hp⟩

/-- R120, R189: after a return the notice of a station is that of its pending hold with the lowest trip number. -/
theorem State.resumed_notice_lowest {s : State} {x : Station} {i : Fin 4} {v : Trip} {h : Hold} (hv : s.slot i = some v)
    (hh : v.hold = some h) (hp : h.state = .releasePending) (hx : h.station = x)
    (hl : ∀ j w g, s.slot j = some w → w.hold = some g → g.state = .releasePending → g.station = x → j ≠ i →
      v.number < w.number) :
    s.resumed.link.notices.get x = some (.releaseHold v.number h.reference h.amount) := by
  obtain ⟨w, hw, hwn, hwh⟩ := slot_of_claim (s.blocksReset_claim i) hv
  rw [State.resumed_link, ← hwn]
  refine State.repostBoth_lowest (by cases x <;> rfl) hw (hwh.trans hh) hp hx fun j y g hy hg hgp hgx hj => ?_
  obtain ⟨z, hz, hzn, hzh⟩ := slot_of_claim (s.blocksReset_claim j).symm hy
  rw [hwn, ← hzn]
  exact hl j z g hz (hzh.trans hg) hgp hgx hj

/-- R76, R96: after an interrupted commit the evaluation names a tariff where the clock is set and the image VALID. -/
theorem State.resumed_tariff_isSome {s : State} (hi : s.store.state = .idle) (hm : s.store.marker = some .commit) :
    s.resumed.cal.tariff.isSome = (s.store.valid && s.cal.clockSet) := by
  obtain ⟨-, hvalid, -, -⟩ := s.store.resolved_frame s.tot.interrupted
  have hcal : s.restored.cal = s.cal.noTariff := if_pos hm
  rw [State.resumed_cal, State.evaluate_tariff_isSome (by rw [hcal]; rfl),
    State.scheduleImage_eq (Store.resolved_state _ hi), hcal]
  simp only [State.restored, hvalid, Calendar.noTariff]
  cases s.store.valid <;> cases s.cal.clockSet <;> rfl

/-- Settles O58: the blocks of the state that a return leaves, each by its lemma. -/
theorem supplyReturnResumes : Obligations.SupplyReturnResumes := by
  intro s u hp hr hidle hu
  have hi : s.store.state = .idle := hidle hp
  obtain ⟨hcal, hslots⟩ := State.restored_evaluate hi hu
  obtain ⟨hfollows, hfilter, htracker, hduty, hlatch⟩ := s.resumed_sign
  obtain ⟨hmask, hframe, hwatch⟩ := s.resumed_frame
  obtain ⟨hstagingLatch, hstaging, hopen, hrun, hvalid, hversion⟩ := s.resumed_store_frame
  obtain ⟨hselector, hread⟩ := s.restored.evaluate.blocksReset.repostBoth_link
  have hslot : ∀ i, s.resumed.slot i = s.restored.evaluate.slot i := State.slot_congr s.resumed_slots
  refine ⟨s.resumed, exec_supplyReturn hp hr, s.resumed_supply, s.resumed_tot, hfollows, hfilter, htracker, hduty, hlatch,
    s.resumed_slots.trans hslots, s.resumed_cal.trans hcal, ?_, fun i v hv => ?_, fun i => ?_, ?_, hmask, hframe, hwatch,
    ?_, hstagingLatch, hstaging, hopen, hrun, hvalid, hversion, fun hm => ⟨?_, State.resumed_tariff_isSome hi hm⟩,
    fun hm => ?_, ?_, fun x => ?_, s.resumed_notice_isSome,
    fun x i v h hv hh hs hx hl => State.resumed_notice_lowest hv hh hs hx hl, ?_, ?_, ?_, s.resumed_shifts.1,
    s.resumed_shifts.2, ?_⟩
  · have hut : s.restored.cal.tariff = u.cal.tariff := by rw [hu]; rfl
    rw [State.resumed_isPending, hcal, hut]
    simp
  · rw [hslot]; exact State.evaluate_record (s := s.restored) hv
  · rw [hslot]; exact State.evaluate_map _ (fun _ _ _ _ _ => rfl) s.restored i
  · simp [State.resumed_isPending]
  · simp [State.resumed_isPending]
  · rw [State.resumed_store, Store.resolved_commit _ hm]; rfl
  · rw [State.resumed_store, State.resumed_tot, Store.resolved_mirror _ hm]; exact ⟨rfl, rfl, _, rfl, rfl⟩
  · rw [State.resumed_ic]; rfl
  · rw [State.resumed_ic]; cases x <;> exact ⟨rfl, rfl, rfl⟩
  · rw [State.resumed_link]; exact hread rfl
  · rw [State.resumed_link]; exact hselector
  · rw [State.resumed_cal, State.evaluate_time]; exact s.cal.resolved_time _
  · rw [State.resumed_dist, Distance.return_eq]; rfl

end Sys2Proof.Machine
end

section
/-! PROOFS. The calendar's stamps: what one second makes of a stamp and of its weekday, and what a move by many seconds
makes of it (R62, R63, R69). -/

namespace Sys2Proof.Machine

/-! ### Valid stamps (R62, R66) -/

/-- R62, R66: the date of a valid stamp. -/
structure Stamp.ValidDate (t : Stamp) : Prop where
  yearFrom : 2000 ≤ t.year
  yearTo : t.year ≤ 2099
  monthFrom : 1 ≤ t.month
  monthTo : t.month ≤ 12
  dayFrom : 1 ≤ t.day
  dayTo : t.day ≤ monthLength t.year t.month

theorem Stamp.valid_iff (t : Stamp) :
    t.valid = true ↔ t.ValidDate ∧ t.hour ≤ 23 ∧ t.minute ≤ 59 ∧ t.second ≤ 59 := by
  simp only [Stamp.valid, Bool.and_eq_true, decide_eq_true_eq]
  constructor
  · rintro ⟨⟨⟨⟨⟨⟨⟨⟨hy, hy'⟩, hm⟩, hm'⟩, hd⟩, hd'⟩, hh⟩, hmin⟩, hs⟩
    exact ⟨⟨hy, hy', hm, hm', hd, hd'⟩, hh, hmin, hs⟩
  · rintro ⟨⟨hy, hy', hm, hm', hd, hd'⟩, hh, hmin, hs⟩
    exact ⟨⟨⟨⟨⟨⟨⟨⟨hy, hy'⟩, hm⟩, hm'⟩, hd⟩, hd'⟩, hh⟩, hmin⟩, hs⟩

/-- R62: the length of a month, as the rule words it. -/
theorem monthLength_eq (year month : Nat) : monthLength year month =
    if month = 2 then (if year % 4 = 0 then 29 else 28)
    else if month = 4 ∨ month = 6 ∨ month = 9 ∨ month = 11 then 30 else 31 := by
  unfold monthLength
  split
  · rfl
  · rfl
  · rfl
  · rfl
  · simp [isLeap]
  · simp_all

theorem monthLength_pos (year month : Nat) : 1 ≤ monthLength year month := by
  rw [monthLength_eq]
  split_ifs <;> omega

theorem monthLength_december (year : Nat) : monthLength year 12 = 31 := rfl

/-! ### One second (R62, R63) -/

section
variable {t : Stamp}

theorem nextSecond_second (h : t.second < 59) : nextSecond t = { t with second := t.second + 1 } := if_pos h

theorem nextSecond_minute (hs : 59 ≤ t.second) (hm : t.minute < 59) :
    nextSecond t = { t with minute := t.minute + 1, second := 0 } := by
  rw [nextSecond, if_neg (by omega), if_pos hm]

theorem nextSecond_hour (hs : 59 ≤ t.second) (hm : 59 ≤ t.minute) (hh : t.hour < 23) :
    nextSecond t = { t with hour := t.hour + 1, minute := 0, second := 0 } := by
  rw [nextSecond, if_neg (by omega), if_neg (by omega), if_pos hh]

theorem nextSecond_day (hs : 59 ≤ t.second) (hm : 59 ≤ t.minute) (hh : 23 ≤ t.hour) : nextSecond t = nextDay t := by
  rw [nextSecond, if_neg (by omega), if_neg (by omega), if_neg (by omega)]

theorem nextDay_day (h : t.day < monthLength t.year t.month) : nextDay t = ⟨t.year, t.month, t.day + 1, 0, 0, 0⟩ :=
  if_pos h

theorem nextDay_month (hd : monthLength t.year t.month ≤ t.day) (hm : t.month < 12) :
    nextDay t = ⟨t.year, t.month + 1, 1, 0, 0, 0⟩ := by
  rw [nextDay, if_neg (by omega), if_pos hm]

theorem nextDay_year (hd : monthLength t.year t.month ≤ t.day) (hm : 12 ≤ t.month) (hy : t.year < 2099) :
    nextDay t = ⟨t.year + 1, 1, 1, 0, 0, 0⟩ := by
  rw [nextDay, if_neg (by omega), if_neg (by omega), if_pos hy]

theorem nextDay_wrap (hd : monthLength t.year t.month ≤ t.day) (hm : 12 ≤ t.month) (hy : 2099 ≤ t.year) :
    nextDay t = firstStamp := by
  rw [nextDay, if_neg (by omega), if_neg (by omega), if_neg (by omega)]

theorem previousSecond_second (h : 0 < t.second) : previousSecond t = { t with second := t.second - 1 } := if_pos h

theorem previousSecond_minute (hs : t.second = 0) (hm : 0 < t.minute) :
    previousSecond t = { t with minute := t.minute - 1, second := 59 } := by
  rw [previousSecond, if_neg (by omega), if_pos hm]

theorem previousSecond_hour (hs : t.second = 0) (hm : t.minute = 0) (hh : 0 < t.hour) :
    previousSecond t = { t with hour := t.hour - 1, minute := 59, second := 59 } := by
  rw [previousSecond, if_neg (by omega), if_neg (by omega), if_pos hh]

theorem previousSecond_day (hs : t.second = 0) (hm : t.minute = 0) (hh : t.hour = 0) :
    previousSecond t = previousDay t := by
  rw [previousSecond, if_neg (by omega), if_neg (by omega), if_neg (by omega)]

theorem previousDay_day (h : 1 < t.day) : previousDay t = ⟨t.year, t.month, t.day - 1, 23, 59, 59⟩ := if_pos h

theorem previousDay_month (hd : t.day ≤ 1) (hm : 1 < t.month) :
    previousDay t = ⟨t.year, t.month - 1, monthLength t.year (t.month - 1), 23, 59, 59⟩ := by
  rw [previousDay, if_neg (by omega), if_pos hm]

theorem previousDay_year (hd : t.day ≤ 1) (hm : t.month ≤ 1) (hy : 2000 < t.year) :
    previousDay t = ⟨t.year - 1, 12, 31, 23, 59, 59⟩ := by
  rw [previousDay, if_neg (by omega), if_neg (by omega), if_pos hy]

theorem previousDay_wrap (hd : t.day ≤ 1) (hm : t.month ≤ 1) (hy : t.year ≤ 2000) : previousDay t = lastStamp := by
  rw [previousDay, if_neg (by omega), if_neg (by omega), if_neg (by omega)]

end

/-! ### Valid stamps stay valid -/

/-- R66: a valid date at any time of the day is a valid stamp. -/
theorem Stamp.ValidDate.validAt {t : Stamp} (h : t.ValidDate) {hour minute second : Nat} (hh : hour ≤ 23)
    (hm : minute ≤ 59) (hs : second ≤ 59) : (⟨t.year, t.month, t.day, hour, minute, second⟩ : Stamp).valid = true :=
  (Stamp.valid_iff _).2 ⟨⟨h.yearFrom, h.yearTo, h.monthFrom, h.monthTo, h.dayFrom, h.dayTo⟩, hh, hm, hs⟩

theorem nextDay_valid {t : Stamp} (h : t.ValidDate) : (nextDay t).valid = true := by
  obtain ⟨hy, hy', hm, hm', hd, hd'⟩ := h
  unfold nextDay
  split_ifs with hday hmonth hyear
  · exact (Stamp.valid_iff _).2 ⟨⟨hy, hy', hm, hm', by simp, hday⟩, by simp⟩
  · exact (Stamp.valid_iff _).2 ⟨⟨hy, hy', by simp, hmonth, le_rfl, monthLength_pos _ _⟩, by simp⟩
  · exact (Stamp.valid_iff _).2 ⟨⟨by simp; omega, hyear, le_rfl, by simp, le_rfl, monthLength_pos _ _⟩, by simp⟩
  · decide

theorem previousDay_valid {t : Stamp} (h : t.ValidDate) : (previousDay t).valid = true := by
  obtain ⟨hy, hy', hm, hm', hd, hd'⟩ := h
  unfold previousDay
  split_ifs with hday hmonth hyear
  · exact (Stamp.valid_iff _).2 ⟨⟨hy, hy', hm, hm', by simp; omega, by simp; omega⟩, by simp⟩
  · exact (Stamp.valid_iff _).2 ⟨⟨hy, hy', by simp; omega, by simp; omega, monthLength_pos _ _, le_rfl⟩, by simp⟩
  · exact (Stamp.valid_iff _).2 ⟨⟨by simp; omega, by simp; omega, by simp, by simp, by simp, le_rfl⟩, by simp⟩
  · decide

/-- R62, R63: the second after a valid stamp is a valid stamp. -/
theorem nextSecond_valid {t : Stamp} (h : t.valid = true) : (nextSecond t).valid = true := by
  obtain ⟨hdate, hh, hm, hs⟩ := t.valid_iff.1 h
  unfold nextSecond
  split_ifs with hsecond hminute hhour
  · exact hdate.validAt hh hm hsecond
  · exact hdate.validAt hh hminute (by simp)
  · exact hdate.validAt hhour (by simp) (by simp)
  · exact nextDay_valid hdate

/-- R63: the second before a valid stamp is a valid stamp. -/
theorem previousSecond_valid {t : Stamp} (h : t.valid = true) : (previousSecond t).valid = true := by
  obtain ⟨hdate, hh, hm, hs⟩ := t.valid_iff.1 h
  unfold previousSecond
  split_ifs
  · exact hdate.validAt hh hm (by omega)
  · exact hdate.validAt hh (by omega) le_rfl
  · exact hdate.validAt (by omega) le_rfl le_rfl
  · exact previousDay_valid hdate

/-! ### One second on and one second back -/

/-- R62, R63: the day before the day after is the day itself, through the wrap too. -/
theorem previousDay_nextDay {t : Stamp} (h : t.ValidDate) :
    previousDay (nextDay t) = ⟨t.year, t.month, t.day, 23, 59, 59⟩ := by
  obtain ⟨hy, hy', hm, hm', hd, hd'⟩ := h
  obtain hday | hday := Nat.lt_or_ge t.day (monthLength t.year t.month)
  · rw [nextDay_day hday, previousDay_day (by simp; omega)]
    simp
  have hlast : t.day = monthLength t.year t.month := le_antisymm hd' hday
  obtain hmonth | hmonth := Nat.lt_or_ge t.month 12
  · rw [nextDay_month hday hmonth, previousDay_month le_rfl (by simp; omega)]
    simp [hlast]
  have hdecember : t.month = 12 := le_antisymm hm' hmonth
  rw [hdecember, monthLength_december] at hlast
  obtain hyear | hyear := Nat.lt_or_ge t.year 2099
  · rw [nextDay_year hday hmonth hyear, previousDay_year le_rfl le_rfl (by simp; omega)]
    simp [hlast, hdecember]
  · rw [nextDay_wrap hday hmonth hyear, previousDay_wrap le_rfl le_rfl le_rfl, hlast, hdecember, le_antisymm hy' hyear]
    rfl

/-- R62, R63: the day after the day before is the day itself, through the wrap too. -/
theorem nextDay_previousDay {t : Stamp} (h : t.ValidDate) :
    nextDay (previousDay t) = ⟨t.year, t.month, t.day, 0, 0, 0⟩ := by
  obtain ⟨hy, hy', hm, hm', hd, hd'⟩ := h
  obtain hday | hday := Nat.lt_or_ge 1 t.day
  · rw [previousDay_day hday, nextDay_day (by simp; omega)]
    simp; omega
  have hfirst : t.day = 1 := le_antisymm hday hd
  obtain hmonth | hmonth := Nat.lt_or_ge 1 t.month
  · rw [previousDay_month hday hmonth, nextDay_month le_rfl (by simp; omega)]
    simp [hfirst]; omega
  have hjanuary : t.month = 1 := le_antisymm hmonth hm
  obtain hyear | hyear := Nat.lt_or_ge 2000 t.year
  · rw [previousDay_year hday hmonth hyear, nextDay_year (monthLength_december _).le le_rfl (by simp; omega)]
    simp [hfirst, hjanuary]; omega
  · rw [previousDay_wrap hday hmonth hyear, nextDay_wrap (monthLength_december _).le le_rfl le_rfl, hfirst, hjanuary,
      le_antisymm hyear hy]
    rfl

/-- R62: a day begins at 00:00:00. -/
theorem nextDay_midnight (t : Stamp) : (nextDay t).hour = 0 ∧ (nextDay t).minute = 0 ∧ (nextDay t).second = 0 := by
  unfold nextDay
  split_ifs <;> exact ⟨rfl, rfl, rfl⟩

/-- R62: a day ends at 23:59:59. -/
theorem previousDay_lastSecond (t : Stamp) :
    (previousDay t).hour = 23 ∧ (previousDay t).minute = 59 ∧ (previousDay t).second = 59 := by
  unfold previousDay
  split_ifs <;> exact ⟨rfl, rfl, rfl⟩

/-- R62, R63: a second on and a second back is the stamp itself. -/
theorem previousSecond_nextSecond {t : Stamp} (h : t.valid = true) : previousSecond (nextSecond t) = t := by
  obtain ⟨hdate, hh, hm, hs⟩ := t.valid_iff.1 h
  obtain ⟨year, month, day, hour, minute, second⟩ := t
  obtain hsecond | rfl := Nat.lt_or_eq_of_le hs
  · rw [nextSecond_second hsecond, previousSecond_second (Nat.succ_pos _), Nat.add_sub_cancel]
  obtain hminute | rfl := Nat.lt_or_eq_of_le hm
  · rw [nextSecond_minute le_rfl hminute, previousSecond_minute rfl (Nat.succ_pos _), Nat.add_sub_cancel]
  obtain hhour | rfl := Nat.lt_or_eq_of_le hh
  · rw [nextSecond_hour le_rfl le_rfl hhour, previousSecond_hour rfl rfl (Nat.succ_pos _), Nat.add_sub_cancel]
  · obtain ⟨ehour, eminute, esecond⟩ := nextDay_midnight ⟨year, month, day, 23, 59, 59⟩
    rw [nextSecond_day le_rfl le_rfl le_rfl, previousSecond_day esecond eminute ehour, previousDay_nextDay hdate]

/-- R62, R63: a second back and a second on is the stamp itself. -/
theorem nextSecond_previousSecond {t : Stamp} (h : t.valid = true) : nextSecond (previousSecond t) = t := by
  obtain ⟨hdate, hh, hm, hs⟩ := t.valid_iff.1 h
  obtain ⟨year, month, day, hour, minute, second⟩ := t
  cases second with
  | succ n =>
    rw [previousSecond_second (Nat.succ_pos _)]
    exact nextSecond_second (t := ⟨year, month, day, hour, minute, n⟩) hs
  | zero =>
    cases minute with
    | succ n =>
      rw [previousSecond_minute rfl (Nat.succ_pos _)]
      exact nextSecond_minute (t := ⟨year, month, day, hour, n, 59⟩) le_rfl hm
    | zero =>
      cases hour with
      | succ n =>
        rw [previousSecond_hour rfl rfl (Nat.succ_pos _)]
        exact nextSecond_hour (t := ⟨year, month, day, n, 59, 59⟩) le_rfl le_rfl hh
      | zero =>
        obtain ⟨ehour, eminute, esecond⟩ := previousDay_lastSecond ⟨year, month, day, 0, 0, 0⟩
        rw [previousSecond_day rfl rfl rfl, nextSecond_day esecond.ge eminute.ge ehour.ge, nextDay_previousDay hdate]

/-! ### The boundaries of a second (R62) -/

/-- R62: the second after a stamp at each boundary, in the words of the rule. -/
theorem nextSecond_boundaries (y mo d h m : Nat) :
    (∀ s, s < 59 → nextSecond ⟨y, mo, d, h, m, s⟩ = ⟨y, mo, d, h, m, s + 1⟩)
    ∧ (m < 59 → nextSecond ⟨y, mo, d, h, m, 59⟩ = ⟨y, mo, d, h, m + 1, 0⟩)
    ∧ (h < 23 → nextSecond ⟨y, mo, d, h, 59, 59⟩ = ⟨y, mo, d, h + 1, 0, 0⟩)
    ∧ (d < monthLength y mo → nextSecond ⟨y, mo, d, 23, 59, 59⟩ = ⟨y, mo, d + 1, 0, 0, 0⟩)
    ∧ (mo < 12 → nextSecond ⟨y, mo, monthLength y mo, 23, 59, 59⟩ = ⟨y, mo + 1, 1, 0, 0, 0⟩)
    ∧ (y < 2099 → nextSecond ⟨y, 12, 31, 23, 59, 59⟩ = ⟨y + 1, 1, 1, 0, 0, 0⟩) := by
  have hday : ∀ y mo d, nextSecond ⟨y, mo, d, 23, 59, 59⟩ = nextDay ⟨y, mo, d, 23, 59, 59⟩ := fun _ _ _ => rfl
  simp only [hday]
  exact ⟨fun s hs => nextSecond_second hs, fun hm => nextSecond_minute le_rfl hm,
    fun hh => nextSecond_hour le_rfl le_rfl hh, fun hd => nextDay_day hd, fun hmo => nextDay_month le_rfl hmo,
    fun hy => nextDay_year le_rfl le_rfl hy⟩

/-! ### The weekday (R62) -/

theorem daysBefore_succ (year : Nat) {month : Nat} (h : 1 ≤ month) :
    daysBefore year (month + 1) = daysBefore year month + monthLength year month := by
  obtain ⟨n, rfl⟩ := Nat.exists_eq_add_of_le' h
  rfl

/-- R62: the days of a year before December. -/
theorem daysBefore_december (year : Nat) : daysBefore year 12 = if year % 4 = 0 then 335 else 334 := by
  by_cases h : year % 4 = 0 <;> simp [daysBefore, monthLength, isLeap, h]

/-- R62: the day after a date is numbered one higher, up to the end of the range. -/
theorem dayNumber_nextDay {t : Stamp} (h : t.ValidDate)
    (hlast : ¬(t.year = 2099 ∧ t.month = 12 ∧ t.day = 31)) : dayNumber (nextDay t) = dayNumber t + 1 := by
  obtain ⟨hy, hy', hm, hm', hd, hd'⟩ := h
  obtain hday | hday := Nat.lt_or_ge t.day (monthLength t.year t.month)
  · rw [nextDay_day hday]
    simp only [dayNumber]
    omega
  obtain hmonth | hmonth := Nat.lt_or_ge t.month 12
  · rw [nextDay_month hday hmonth]
    simp only [dayNumber, daysBefore_succ t.year hm]
    omega
  have hdecember : t.month = 12 := le_antisymm hm' hmonth
  rw [hdecember, monthLength_december] at hday hd'
  obtain hyear | hyear := Nat.lt_or_ge t.year 2099
  · rw [nextDay_year (by rw [hdecember]; exact hday) hmonth hyear]
    simp only [dayNumber, hdecember, daysBefore_december]
    simp only [daysBefore]
    split_ifs <;> omega
  · exact absurd ⟨by omega, hdecember, by omega⟩ hlast

/-- R62: 2000-01-01, the day numbered 0, is a Saturday, of bit 5, and the weekdays follow one another. -/
theorem weekdayOf_bit (t : Stamp) : (weekdayOf t).bit = (dayNumber t + 5) % 7 := by
  have hlt : dayNumber t % 7 < 7 := Nat.mod_lt _ (by simp)
  interval_cases h : dayNumber t % 7 <;> simp only [weekdayOf, h, Weekday.bit] <;> omega

/-- R62: at midnight the weekday is the next one, short of the end of the range. -/
theorem weekdayOf_nextSecond_midnight {t : Stamp} (h : t.valid = true) (hlast : t ≠ lastStamp)
    (hm : t.hour = 23 ∧ t.minute = 59 ∧ t.second = 59) :
    (weekdayOf (nextSecond t)).bit = ((weekdayOf t).bit + 1) % 7 := by
  obtain ⟨hour, minute, second⟩ := hm
  have hdate : ¬(t.year = 2099 ∧ t.month = 12 ∧ t.day = 31) := by
    rintro ⟨year, month, day⟩
    obtain ⟨⟩ := t
    subst year month day hour minute second
    exact hlast rfl
  rw [nextSecond_day second.ge minute.ge hour.ge, weekdayOf_bit, weekdayOf_bit,
    dayNumber_nextDay (t.valid_iff.1 h).1 hdate]
  omega

/-- R62: within a day the weekday stays. -/
theorem weekdayOf_nextSecond_within {t : Stamp} (h : t.valid = true)
    (hm : ¬(t.hour = 23 ∧ t.minute = 59 ∧ t.second = 59)) : weekdayOf (nextSecond t) = weekdayOf t := by
  obtain ⟨-, hh, hm, hs⟩ := t.valid_iff.1 h
  unfold nextSecond
  split_ifs
  · rfl
  · rfl
  · rfl
  · omega

/-! ### A move by many seconds (R63, R69) -/

/-- R63, R69: a move forward is as many seconds on, and passes the end of the range where it leaves the last stamp. -/
theorem forward_eq (n : Nat) (t : Stamp) : (forward n t).1 = nextSecond^[n] t
    ∧ ((forward n t).2 = true ↔ ∃ m, m < n ∧ nextSecond^[m] t = lastStamp) := by
  induction n generalizing t with
  | zero => simp [forward]
  | succ n ih =>
    obtain ⟨hstamp, hpassed⟩ := ih (nextSecond t)
    refine ⟨hstamp, ?_⟩
    simp only [forward, Bool.or_eq_true, decide_eq_true_eq, hpassed]
    exact (Nat.exists_lt_succ_left (p := fun m => nextSecond^[m] t = lastStamp)).symm

/-- R63, R69: a move back is as many seconds back, and passes the start of the range where it leaves the first stamp. -/
theorem backward_eq (n : Nat) (t : Stamp) : (backward n t).1 = previousSecond^[n] t
    ∧ ((backward n t).2 = true ↔ ∃ m, m < n ∧ previousSecond^[m] t = firstStamp) := by
  induction n generalizing t with
  | zero => simp [backward]
  | succ n ih =>
    obtain ⟨hstamp, hpassed⟩ := ih (previousSecond t)
    refine ⟨hstamp, ?_⟩
    simp only [backward, Bool.or_eq_true, decide_eq_true_eq, hpassed]
    exact (Nat.exists_lt_succ_left (p := fun m => previousSecond^[m] t = firstStamp)).symm

theorem moveBy_forward (n : Nat) (t : Stamp) : moveBy n t = forward n t := if_pos (Int.natCast_nonneg n)

theorem moveBy_backward (n : Nat) (t : Stamp) : moveBy (-n) t = backward n t := by
  unfold moveBy
  split_ifs with h
  · obtain rfl : n = 0 := by omega
    rfl
  · rw [Int.natAbs_neg, Int.natAbs_natCast]

/-- R63, R69: a move from a valid stamp ends at a valid stamp. -/
theorem moveBy_valid (z : Int) {t : Stamp} (h : t.valid = true) : (moveBy z t).1.valid = true := by
  obtain ⟨n, rfl | rfl⟩ := z.eq_nat_or_neg
  · rw [moveBy_forward, (forward_eq n t).1]
    exact Function.Iterate.rec (fun u : Stamp => u.valid = true) h (fun _ => nextSecond_valid) n
  · rw [moveBy_backward, (backward_eq n t).1]
    exact Function.Iterate.rec (fun u : Stamp => u.valid = true) h (fun _ => previousSecond_valid) n

end Sys2Proof.Machine
end

section
/-! PROOFS. SET CLOCK and ADJUST CLOCK, and the second's steps through the calendar (O34). -/

namespace Sys2Proof.Machine

/-! ### SET CLOCK (R66, R67) -/

/-- R140: an evaluation leaves the sign as it follows. -/
theorem SignFollows.evaluate {s : State} (h : SignFollows s) : SignFollows s.evaluate := by
  rw [SignFollows, State.evaluate_sign, State.evaluate_deriveSign]
  exact h

theorem setClockBody_accepted {now : Stamp} {s : State} (hopen : s.store.switchOpen = true)
    (hfree : ∀ i, s.slot i = none) (hvalid : now.valid = true) :
    setClockBody now s = ok [(s.setClock now).cal.tariffByte] (s.setClock now) := by
  simp [setClockBody, hopen, hvalid, State.anyOccupied_eq_false.2 hfree]

/-- R67: an accepted SET CLOCK, served. -/
theorem takeCommand_setClock {now : Stamp} {s : State} (h : Serving s) (hopen : s.store.switchOpen = true)
    (hfree : ∀ i, s.slot i = none) (hvalid : now.valid = true) :
    takeCommand 7 (setClockBody now) s = (s.setClock now).reply 7 .ok [byte ((s.setClock now).cal.tariff.getD 0)] := by
  have hsign : SignFollows (s.onCal fun c => { c.setTime now with clockSet := true }) := h.1.2
  exact takeCommand_followed h (setClockBody_accepted hopen hfree hvalid) hsign.evaluate

/-! ### ADJUST CLOCK (R68, R69) -/

/-- R68: the applied amount is the request within ±120 and within the allowance. -/
theorem appliedAmount_eq (request : Int) (allowance : Nat) : appliedAmount request allowance =
    if 0 ≤ request then min (min request 120) allowance else max (max request (-120)) (-allowance) := by
  unfold appliedAmount
  split_ifs <;> omega

/-- R63, R69: the calendar moved to a stamp, with what a wrap clears written out. -/
theorem Calendar.moved_eq (now : Stamp) (wrapped : Bool) (c : Calendar) : (c.setTime now).clearIf wrapped =
    if wrapped then { time := now, weekday := weekdayOf now, clockSet := false, tariff := none, deciding := none }
    else { c with time := now, weekday := weekdayOf now } := by
  cases wrapped <;> rfl

/-- R69: an accepted ADJUST CLOCK under the current shift record. -/
theorem State.adjustClock_eq {applied : Int} {s : State} {sh : Shift} (hs : s.shift = some sh) :
    s.adjustClock applied = State.evaluate { s with
      cal :=
        if (moveBy applied s.cal.time).2 then
          { time := (moveBy applied s.cal.time).1, weekday := weekdayOf (moveBy applied s.cal.time).1,
            clockSet := false, tariff := none, deciding := none }
        else { s.cal with time := (moveBy applied s.cal.time).1, weekday := weekdayOf (moveBy applied s.cal.time).1 }
      shift := some { sh with
        allowance := sh.allowance - applied.natAbs, adjustmentSum := sh.adjustmentSum + applied } } := by
  rw [← Calendar.moved_eq]
  unfold State.adjustClock State.credit
  rw [State.onCal_shift, hs]
  rfl

theorem adjustClockBody_accepted {request : Int} {s : State} {sh : Shift} (hs : s.shift = some sh)
    (hstate : sh.state ≠ .closing) (hclock : s.cal.clockSet = true) (hrun : s.runningCount = 0) :
    adjustClockBody request s = ok [signedByte (appliedAmount request sh.allowance),
      byte (sh.allowance - (appliedAmount request sh.allowance).natAbs)]
      (s.adjustClock (appliedAmount request sh.allowance)) := by
  simp [adjustClockBody, hs, hstate, hclock, hrun]

/-- R69: an accepted ADJUST CLOCK, served. -/
theorem takeCommand_adjustClock {request applied : Int} {s : State} {sh : Shift} (h : Serving s)
    (hs : s.shift = some sh) (hstate : sh.state ≠ .closing) (hclock : s.cal.clockSet = true) (hrun : s.runningCount = 0)
    (ha : applied = appliedAmount request sh.allowance) :
    takeCommand 1 (adjustClockBody request) s
      = (s.adjustClock applied).reply 1 .ok [BitVec.ofInt 8 applied, byte (sh.allowance - applied.natAbs)] := by
  subst ha
  refine takeCommand_followed h (adjustClockBody_accepted hs hstate hclock hrun) (SignFollows.evaluate ?_)
  exact SignFollows.credit (s := s.onCal _) h.1.2 fun _ => rfl

/-! ### O34 -/

/-- Settles O34: the two accepted commands, the moves as repeated seconds, the two directions inverse to each other, and
the boundaries of a second with its weekday. -/
theorem clockIsSetAndAdjusted : Obligations.ClockIsSetAndAdjusted := by
  refine ⟨?_, ?_, fun n t => ?_, fun t h => ⟨previousSecond_nextSecond h, nextSecond_previousSecond h⟩, ?_, by decide,
    fun t h hlast => ⟨weekdayOf_nextSecond_midnight h hlast, weekdayOf_nextSecond_within h⟩⟩
  · rintro year month day hour minute second now s u h rfl hvalid hopen hfree rfl
    exact congrArg _ (takeCommand_setClock h hopen hfree hvalid)
  · rintro seconds applied sh s u h hs hstate hclock hrun ha rfl
    rw [← appliedAmount_eq] at ha
    rw [← State.adjustClock_eq hs]
    exact congrArg _ (takeCommand_adjustClock h hs hstate hclock hrun ha)
  · rw [moveBy_forward, moveBy_backward]
    obtain ⟨hforward, hend⟩ := forward_eq n t
    obtain ⟨hbackward, hstart⟩ := backward_eq n t
    exact ⟨hforward, hbackward, hend, hstart⟩
  · rintro y mo d h m length rfl
    rw [← monthLength_eq]
    obtain ⟨hsecond, hminute, hhour, hday, hmonth, hyear⟩ := nextSecond_boundaries y mo d h m
    exact ⟨hsecond, hminute, hhour, hday, hmonth, hyear, by decide⟩

end Sys2Proof.Machine
end

section
/-! SUPPORT. The commands and events that leave the calendar as it was: all but the clock's own commands, the rollover, the
evaluations and the cold start (R61). -/

namespace Sys2Proof.Machine

/-! ### Taking commands and messages -/

@[simp] theorem ok_state (response : List Byte) (s : State) : (ok response s).2 = s := rfl

@[simp] theorem refuse_state (length : Nat) (code : ResultCode) (s : State) : (refuse length code s).2 = s := rfl

@[simp] theorem okSlot_state (i : Fin 4) (s : State) : (okSlot i s).2 = s := rfl

@[simp] theorem okSign_cal (s : State) : (okSign s).2.cal = s.cal := s.followSign_cal

/-- A command leaves of the calendar what its body leaves, or all of it where it is not taken. -/
theorem takeCommand_cal (args : Nat) (body : State → Reply × State) (s : State) :
    (takeCommand args body s).cal = s.cal ∨ (takeCommand args body s).cal = (body s).2.cal := by
  rcases takeCommand_cases args body s with ⟨-, e⟩ | ⟨-, e⟩ <;> rw [e]
  · exact .inl rfl
  · exact .inr (by simp)

/-- A command whose body leaves the calendar leaves it. -/
theorem takeCommand_keepsCal {args : Nat} {body : State → Reply × State} {s : State} (h : (body s).2.cal = s.cal) :
    (takeCommand args body s).cal = s.cal := (takeCommand_cal args body s).elim id (·.trans h)

theorem takeMessage_keepsCal {body : State → State} {s : State} (h : (body s).cal = s.cal) :
    (takeMessage body s).cal = s.cal := by
  rcases takeMessage_cases body s with ⟨-, e⟩ | ⟨-, e⟩ <;> rw [e]
  rw [State.followSign_cal, h]

theorem withSlot_keepsCal {length : Nat} {slot : Byte} {s : State} {f : Fin 4 → Trip → Reply × State}
    (h : ∀ i t, (f i t).2.cal = s.cal) : (withSlot length slot s f).2.cal = s.cal := by
  rcases withSlot_cases length slot s f with ⟨-, e⟩ | ⟨i, -, -, e⟩ | ⟨i, t, -, -, e⟩ <;> rw [e]
  · rfl
  · rfl
  · exact h i t

theorem withFare_keepsCal {x : Station} {kind : Byte} {n : Nat} {s : State} {f : Fin 4 → Trip → State}
    (h : ∀ i t, (f i t).cal = s.cal) : (withFare x kind n s f).cal = s.cal := by
  rcases withFare_cases x kind n s f with e | ⟨i, t, -, -, -, e⟩ | ⟨i, t, -, -, -, e⟩ <;> rw [e]
  · exact State.deny_cal ..
  · exact State.deny_cal ..
  · exact h i t

/-! ### The fare table's commands (chapter 1) -/

theorem startFareBody_cal (set share selection tariff : Byte) (s : State) :
    (startFareBody set share selection tariff s).2.cal = s.cal := by
  simp only [startFareBody, startFareWith, startFareUnder]
  repeat' split
  all_goals rfl

theorem pauseFareBody_cal (slot : Byte) (s : State) : (pauseFareBody slot s).2.cal = s.cal :=
  withSlot_keepsCal fun i t => by split <;> simp [State.pauseFare]

theorem resumeFareBody_cal (slot : Byte) (s : State) : (resumeFareBody slot s).2.cal = s.cal :=
  withSlot_keepsCal fun i t => by split <;> rfl

@[simp] theorem State.announceStop_cal (i : Fin 4) (s : State) : (s.announceStop i).cal = s.cal := by
  unfold State.announceStop
  split <;> simp

theorem stopFareBody_cal (slot : Byte) (s : State) : (stopFareBody slot s).2.cal = s.cal :=
  withSlot_keepsCal fun i t => by split <;> simp [State.stopFare]

theorem reopenFareBody_cal (slot : Byte) (s : State) : (reopenFareBody slot s).2.cal = s.cal :=
  withSlot_keepsCal fun i t => by
    repeat' split
    all_goals rfl

@[simp] theorem State.repostDue_cal (t : Trip) (s : State) : (s.repostDue t).cal = s.cal := by
  unfold State.repostDue
  split <;> simp

theorem addExtraBody_cal (slot : Byte) (kind count : Nat) (s : State) :
    (addExtraBody slot kind count s).2.cal = s.cal :=
  withSlot_keepsCal fun i t => by
    repeat' split
    all_goals simp [State.addExtra]

theorem cancelExtraBody_cal (slot : Byte) (kind : Nat) (s : State) : (cancelExtraBody slot kind s).2.cal = s.cal :=
  withSlot_keepsCal fun i t => by
    repeat' split
    all_goals simp

theorem releaseTripBody_cal (slot : Byte) (trip : Nat) (s : State) : (releaseTripBody slot trip s).2.cal = s.cal :=
  withSlot_keepsCal fun i t => by
    repeat' split
    all_goals rfl

/-! ### Settlement (chapter 6) -/

@[simp] theorem State.settleByDriver_cal (i : Fin 4) (t : Trip) (m : Method) (captured tip : Nat) (s : State) :
    (s.settleByDriver i t m captured tip).cal = s.cal := by
  simp [State.settleByDriver]

theorem recordCashBody_cal (slot : Byte) (tip : Nat) (s : State) : (recordCashBody slot tip s).2.cal = s.cal :=
  withSlot_keepsCal fun i t => by
    repeat' split
    all_goals simp

theorem declareUnpaidBody_cal (slot : Byte) (s : State) : (declareUnpaidBody slot s).2.cal = s.cal :=
  withSlot_keepsCal fun i t => by
    repeat' split
    all_goals simp

theorem holdPlacedBody_cal (x : Station) (trip reference amount : Nat) (s : State) :
    (holdPlacedBody x trip reference amount s).cal = s.cal := by
  unfold holdPlacedBody
  split
  · simp
  · refine withFare_keepsCal fun i t => ?_
    unfold holdPlacedOn
    repeat' split
    all_goals simp [State.placeHold]

theorem holdReleasedBody_cal (x : Station) (reference : Nat) (s : State) :
    (holdReleasedBody x reference s).cal = s.cal := by
  unfold holdReleasedBody State.releaseHold State.acceptRelease
  repeat' split
  all_goals simp

theorem payBeginOn_cal (x : Station) (i : Fin 4) (t : Trip) (s : State) : (payBeginOn x i t s).cal = s.cal := by
  unfold payBeginOn
  repeat' split
  all_goals simp

theorem payResultBody_cal (x : Station) (trip : Nat) (outcome : Byte) (captured tip reference : Nat) (s : State) :
    (payResultBody x trip outcome captured tip reference s).cal = s.cal := by
  unfold payResultBody
  split
  · simp
  split
  · simp
  · refine withFare_keepsCal fun i t => ?_
    unfold payResultOn
    repeat' split
    all_goals simp [State.settleByCard, State.payDeclined, State.payCancelled]

theorem payVoidBody_cal (x : Station) (trip reference : Nat) (s : State) :
    (payVoidBody x trip reference s).cal = s.cal := by
  unfold payVoidBody
  split
  · simp
  · refine withFare_keepsCal fun i t => ?_
    unfold payVoidOn
    repeat' split
    all_goals simp [State.voidPayment]

/-! ### The sign, the supply and the links -/

theorem State.takeUnlisted_cal (code : Byte) (s : State) : (s.takeUnlisted code).cal = s.cal := by
  unfold State.takeUnlisted
  split
  · rfl
  · exact takeCommand_keepsCal rfl

theorem State.sampleAlert_cal (pressed : Bool) (w : Lamps Bool) (s : State) :
    (s.sampleAlert pressed w).cal = s.cal := by
  simp only [State.sampleAlert, State.raiseAlert, State.endPeriodEarly, State.latchAlert]
  repeat' split
  all_goals simp

theorem State.readNotice_cal (part : ReadPart) (s : State) : (s.readNotice part).cal = s.cal := by
  cases part <;> simp [State.readNotice]

theorem State.coldStart_cal (s : State) : s.coldStart.cal = coldCalendar := by rw [State.coldStart_eq]

end Sys2Proof.Machine
end

section
/-! PROOFS. What each event makes of the calendar's stamp, and with it that every step keeps the calendar sound (O8). -/

namespace Sys2Proof.Machine

/-! ### What an event makes of the stamp -/

/-- The event leaves the stamp and the weekday. -/
structure KeepsStamp (s t : State) : Prop where
  time : t.cal.time = s.cal.time
  weekday : t.cal.weekday = s.cal.weekday

theorem KeepsStamp.of_cal {s t : State} (h : t.cal = s.cal) : KeepsStamp s t := ⟨by rw [h], by rw [h]⟩

theorem KeepsStamp.trans {s t u : State} (a : KeepsStamp s t) (b : KeepsStamp t u) : KeepsStamp s u :=
  ⟨b.time.trans a.time, b.weekday.trans a.weekday⟩

/-- R61, R62: what an event makes of the stamp: it leaves stamp and weekday, or it gives a stamp, valid where the one
before it was, with the weekday of its date. -/
inductive StampMove (s t : State) : Prop
  | kept (h : KeepsStamp s t)
  | dated (hvalid : s.cal.time.valid = true → t.cal.time.valid = true) (hday : t.cal.weekday = weekdayOf t.cal.time)

theorem StampMove.of_cal {s t : State} (h : t.cal = s.cal) : StampMove s t := .kept (.of_cal h)

/-- What an event makes of the stamp, with changes after it that leave the stamp. -/
theorem StampMove.andKept {s t u : State} (h : StampMove s t) (hu : KeepsStamp t u) : StampMove s u := by
  cases h with
  | kept h => exact .kept (h.trans hu)
  | dated hvalid hday => exact .dated (by rwa [hu.time]) (by rw [hu.weekday, hu.time, hday])

theorem StampMove.sound {s t : State} (h : StampMove s t) (hs : CalendarIsSound s) : CalendarIsSound t := by
  obtain ⟨hvalid, hday⟩ := hs
  cases h with
  | kept h => exact ⟨by rw [h.time, hvalid], by rw [h.weekday, h.time, hday]⟩
  | dated ht hw => exact ⟨ht hvalid, hw⟩

/-! ### The evaluations (R76, R77) and the tariff that a failed commit leaves (R94) -/

/-- R77: an evaluation leaves the stamp and the weekday. -/
theorem State.evaluate_stamp (s : State) : KeepsStamp s s.evaluate := by
  rcases State.evaluate_cases s with e | ⟨d, e⟩ | ⟨n, d, -, e⟩ <;> rw [e] <;> exact ⟨rfl, rfl⟩

theorem State.commitSucceeds_stamp (w : StoreWrite) (s : State) : KeepsStamp s (s.commitSucceeds w) := by
  refine KeepsStamp.trans ?_ (State.evaluate_stamp _)
  exact .of_cal rfl

/-- R94, R96: the write marker resolved leaves the weekday. -/
theorem Calendar.resolved_weekday (marker : Option Marker) (c : Calendar) :
    (c.resolved marker).weekday = c.weekday := by
  unfold Calendar.resolved
  split <;> rfl

/-- R76, R96: a supply return leaves the stamp and the weekday. -/
theorem State.return_stamp (s : State) : KeepsStamp s s.returnStores.returnBlocks.returnPower := by
  have hrestored : KeepsStamp s s.restored := ⟨s.cal.resolved_time _, s.cal.resolved_weekday _⟩
  have hstores : KeepsStamp s s.returnStores := by
    rw [s.returnStores_eq]
    exact hrestored.trans (State.evaluate_stamp _)
  exact hstores.trans (.of_cal (by simp [State.returnBlocks, State.returnPower]))

/-! ### The clock's own commands (R67, R69) -/

theorem takeCommand_stamp {args : Nat} {body : State → Reply × State} {s : State} (h : StampMove s (body s).2) :
    StampMove s (takeCommand args body s) :=
  (takeCommand_cal args body s).elim .of_cal fun e => h.andKept (.of_cal e)

/-- R67: an accepted SET CLOCK gives a valid stamp with its weekday; a refused one leaves the calendar. -/
theorem setClockBody_stamp (now : Stamp) (s : State) : StampMove s (setClockBody now s).2 := by
  unfold setClockBody
  split_ifs with hclosed hopenTrips hinvalid
  · exact .of_cal rfl
  · exact .of_cal rfl
  · exact .of_cal rfl
  · have hvalid : now.valid = true := by simpa using hinvalid
    refine StampMove.andKept (t := s.onCal fun c => { c.setTime now with clockSet := true }) ?_ (State.evaluate_stamp _)
    exact .dated (fun _ => hvalid) rfl

/-- R62, R63: the calendar moved to a stamp has that stamp and its weekday, wrapped or not. -/
theorem Calendar.moved_stamp (now : Stamp) (wrapped : Bool) (c : Calendar) :
    ((c.setTime now).clearIf wrapped).time = now ∧ ((c.setTime now).clearIf wrapped).weekday = weekdayOf now := by
  cases wrapped <;> exact ⟨rfl, rfl⟩

/-- R63, R69: an accepted ADJUST CLOCK moves the stamp, with its weekday; a refused one leaves the calendar. -/
theorem State.adjustClock_stamp (applied : Int) (s : State) : StampMove s (s.adjustClock applied) := by
  refine StampMove.andKept ?_ (State.evaluate_stamp _)
  obtain ⟨htime, hday⟩ := s.cal.moved_stamp (moveBy applied s.cal.time).1 (moveBy applied s.cal.time).2
  refine .dated (fun h => ?_) ?_ <;> rw [State.credit_cal, State.onCal_cal, htime]
  · exact moveBy_valid applied h
  · exact hday

theorem adjustClockBody_stamp (request : Int) (s : State) : StampMove s (adjustClockBody request s).2 := by
  unfold adjustClockBody
  repeat' split
  case h_2.isFalse.isFalse.isFalse => exact State.adjustClock_stamp _ s
  all_goals exact .of_cal rfl

/-! ### The second rollover (R62) -/

theorem State.inActive_cal {f : State → State} {s : State} (h : (f s).cal = s.cal) : (s.inActive f).cal = s.cal := by
  unfold State.inActive
  split
  · exact h
  · rfl

theorem State.outsideHoldover_stamp {f : State → State} {s : State} (h : KeepsStamp s (f s)) :
    KeepsStamp s (s.outsideHoldover f) := by
  unfold State.outsideHoldover
  split
  · exact .of_cal rfl
  · exact h

theorem State.minuteTick_keepsStamp (s : State) : KeepsStamp s s.minuteTick := by
  obtain ⟨htime, hday⟩ := s.minuteTick_stamp
  exact ⟨htime, hday⟩

/-- R62: a rollover gives the next second, with its weekday; what follows the calendar's own tick leaves both. -/
theorem secondRollover_stamp (s : State) : ∃ t, execSecondRollover s = .next t ∧ StampMove s t := by
  have htick : StampMove s s.tickCalendar := by
    obtain ⟨htime, hday⟩ := s.tickCalendar_stamp
    exact .dated (fun h => by rw [htime]; exact nextSecond_valid h) (by rw [htime, hday])
  have h1 := htick.andKept (.of_cal (t := s.tickCalendar.fareSecond.closeSecond) (by simp))
  have h2 := h1.andKept (.of_cal (State.inActive_cal (State.fareTimers_cal _)))
  have h3 := h2.andKept (.of_cal (State.inActive_cal (State.intercomTick_cal _)))
  have h4 := h3.andKept (State.outsideHoldover_stamp (f := State.breakTick) (.of_cal rfl))
  have h5 := h4.andKept (.of_cal (State.ignitionTick_cal _))
  have h6 := h5.andKept (State.outsideHoldover_stamp (State.minuteTick_keepsStamp _))
  exact ⟨_, rfl, h6.andKept (.of_cal (State.followSign_cal _))⟩

/-! ### Every command and every step -/

/-- Each command leaves the stamp with its weekday, or gives a stamp with its weekday. -/
theorem exec_stamp (c : Instr) (s : State) : ∃ t, exec c s = .next t ∧ StampMove s t := by
  cases c with
  | setClock => exact ⟨_, rfl, takeCommand_stamp (setClockBody_stamp _ s)⟩
  | adjustClock => exact ⟨_, rfl, takeCommand_stamp (adjustClockBody_stamp _ s)⟩
  | secondRollover => exact secondRollover_stamp s
  | coldStart =>
    refine ⟨_, rfl, ?_⟩
    split
    · have hcold : coldCalendar.time.valid = true ∧ coldCalendar.weekday = weekdayOf coldCalendar.time := by decide
      exact .dated (fun _ => by rw [s.coldStart_cal, hcold.1]) (by rw [s.coldStart_cal, hcold.2])
    · exact .of_cal rfl
  | commitWriteSuccess =>
    refine ⟨_, rfl, ?_⟩
    split
    · exact .kept (s.commitSucceeds_stamp _)
    · exact .of_cal rfl
  | commitWriteFailure =>
    refine ⟨_, rfl, ?_⟩
    split
    · exact .kept ⟨rfl, rfl⟩
    · exact .of_cal rfl
  | supplyReturn =>
    refine ⟨_, rfl, ?_⟩
    split
    · exact .kept s.return_stamp
    · exact .of_cal rfl
  | startFare => exact ⟨_, rfl, .of_cal (takeCommand_keepsCal (startFareBody_cal ..))⟩
  | pauseFare => exact ⟨_, rfl, .of_cal (takeCommand_keepsCal (pauseFareBody_cal ..))⟩
  | resumeFare => exact ⟨_, rfl, .of_cal (takeCommand_keepsCal (resumeFareBody_cal ..))⟩
  | stopFare => exact ⟨_, rfl, .of_cal (takeCommand_keepsCal (stopFareBody_cal ..))⟩
  | reopenFare => exact ⟨_, rfl, .of_cal (takeCommand_keepsCal (reopenFareBody_cal ..))⟩
  | addExtra => exact ⟨_, rfl, .of_cal (takeCommand_keepsCal (addExtraBody_cal ..))⟩
  | cancelExtra => exact ⟨_, rfl, .of_cal (takeCommand_keepsCal (cancelExtraBody_cal ..))⟩
  | readTrip => exact ⟨_, rfl, .of_cal (takeCommand_keepsCal (withSlot_keepsCal fun _ _ => rfl))⟩
  | releaseTrip => exact ⟨_, rfl, .of_cal (takeCommand_keepsCal (releaseTripBody_cal ..))⟩
  | recordCash => exact ⟨_, rfl, .of_cal (takeCommand_keepsCal (recordCashBody_cal ..))⟩
  | declareUnpaid => exact ⟨_, rfl, .of_cal (takeCommand_keepsCal (declareUnpaidBody_cal ..))⟩
  | holdPlaced => exact ⟨_, rfl, .of_cal (takeMessage_keepsCal (holdPlacedBody_cal ..))⟩
  | holdReleased => exact ⟨_, rfl, .of_cal (takeMessage_keepsCal (holdReleasedBody_cal ..))⟩
  | payBegin => exact ⟨_, rfl, .of_cal (takeMessage_keepsCal (withFare_keepsCal fun _ _ => payBeginOn_cal ..))⟩
  | payResult => exact ⟨_, rfl, .of_cal (takeMessage_keepsCal (payResultBody_cal ..))⟩
  | payVoid => exact ⟨_, rfl, .of_cal (takeMessage_keepsCal (payVoidBody_cal ..))⟩
  | fareQuery => exact ⟨_, rfl, .of_cal (takeMessage_keepsCal rfl)⟩
  | readClock | readTotalizers | readStatus | identify | readEvents | setEventMask =>
    exact ⟨_, rfl, .of_cal (takeCommand_keepsCal rfl)⟩
  | answer | openStation | closeStation | talkPress | talkRelease | loadStage | stageWrite | readItem | enableCommit
  | commit | standby | signSetup | shiftOpen | shiftBreak | shiftResume | shiftClose
  | readShift | releaseShift | watch =>
    refine ⟨_, rfl, .of_cal (takeCommand_keepsCal ?_)⟩
    simp only [answerBody, openBody, closeBody, talkPressBody, talkReleaseBody, loadStageBody, stageWriteBody,
      readItemBody, enableCommitBody, commitBody, standbyBody, signSetupBody, shiftOpenBody,
      shiftBreakBody, shiftResumeBody, shiftCloseBody, readShiftBody, releaseShiftBody, watchBody]
    repeat' split
    all_goals rfl
  | signDuty | shareAccept | clearAlert =>
    refine ⟨_, rfl, .of_cal (takeCommand_keepsCal ?_)⟩
    simp only [signDutyBody, shareAcceptBody, clearAlertBody]
    split <;> simp
  | badCommand code =>
    refine ⟨_, rfl, .of_cal ?_⟩
    split
    · rfl
    · exact s.takeUnlisted_cal code
  | watchModeExit => exact ⟨_, rfl, .of_cal (s.takeUnlisted_cal _)⟩
  | dcsFalling =>
    refine ⟨_, rfl, .of_cal ?_⟩
    split
    · rfl
    split
    · exact s.wake_cal
    · rfl
  | dcsRising clocked => exact ⟨_, rfl, .of_cal (State.honourStandby_cal _)⟩
  | selectorWrite | connectionExpiry | talkExpiry | callChimeEnd | fareChimeEnd | linkReset | mirrorWriteFailure =>
    refine ⟨_, rfl, .of_cal ?_⟩
    split <;> rfl
  | drstRising | batteryDomainLoss => exact ⟨_, rfl, .of_cal rfl⟩
  | paymentTimerExpiry i =>
    refine ⟨_, rfl, .of_cal ?_⟩
    split
    · rfl
    split
    · simp
    · rfl
  | mirrorWriteSuccess =>
    refine ⟨_, rfl, .of_cal ?_⟩
    split
    · exact State.closeShift_cal _
    · rfl
  | acceptedEdge | dsensSample | svcSample | buttonSample | lampPeriodEnd | alswSample | ignSample | supplyLoss
  | partitionWriteDiscarded | noticeRead | callTimerExpiry | ignitionOffTimerExpiry =>
    refine ⟨_, rfl, .of_cal ?_⟩
    split <;> simp [State.sampleAlert_cal, State.readNotice_cal, State.sampleButton, State.loseSupply]

/-- Each step leaves the stamp with its weekday, or gives a stamp with its weekday. -/
theorem step_stamp {s t : State} (h : step s = .next t) : StampMove s t := by
  unfold step at h
  split at h
  · cases h
    exact .of_cal (State.inActive_cal rfl)
  · rename_i c rest _
    obtain ⟨u, hu, hm⟩ := exec_stamp c { s with pending := rest }
    rw [hu] at h
    cases h
    cases hm with
    | kept hk => exact .kept ⟨hk.time, hk.weekday⟩
    | dated hvalid hday => exact .dated hvalid hday

/-- Settles O8: every step leaves the stamp with its weekday, or gives a stamp, valid where the one before it was, with
the weekday of its date. -/
theorem calendarStaysSound : Obligations.CalendarStaysSound := fun _ _ hs h => (step_stamp h).sound hs

end Sys2Proof.Machine
end

section
/-! SUPPORT. What most events leave of the part's quiet conditions (O12, O13): the power state, the frame in progress with its
count and the level of DRST, the store write under way, the totalizers but for saturating rises, and, outside ACTIVE, the
notices. -/

namespace Sys2Proof.Machine

/-! ### Totalizers that rise (R166) -/

/-- R166: a 32-bit count that is not lowered and stays one. -/
def Rises (a b : Nat) : Prop := a ≤ 4294967295 → a ≤ b ∧ b ≤ 4294967295

@[simp] theorem rises_self (a : Nat) : Rises a a := fun h => ⟨le_rfl, h⟩

@[simp] theorem rises_satAdd (a b : Nat) : Rises a (satAdd a b) := fun h => ⟨le_satAdd b h, satAdd_le a b⟩

theorem Rises.trans {a b c : Nat} (hab : Rises a b) (hbc : Rises b c) : Rises a c := fun h => by
  obtain ⟨h1, h2⟩ := hab h
  obtain ⟨h3, h4⟩ := hbc h2
  exact ⟨h1.trans h3, h4⟩

theorem forall₂_rises_trans {l m n : List Nat} (hlm : List.Forall₂ Rises l m) (hmn : List.Forall₂ Rises m n) :
    List.Forall₂ Rises l n := by
  induction hlm generalizing n with
  | nil => exact hmn
  | cons h _ ih =>
    cases hmn with
    | cons h' hr => exact .cons (h.trans h') (ih hr)

theorem forall₂_rises_le {l m : List Nat} (h : List.Forall₂ Rises l m) (hl : ∀ n ∈ l, n ≤ 4294967295) :
    (∀ n ∈ m, n ≤ 4294967295) ∧ List.Forall₂ (· ≤ ·) l m := by
  induction h with
  | nil => exact ⟨hl, .nil⟩
  | cons h _ ih =>
    rw [List.forall_mem_cons] at hl
    obtain ⟨hm, hle⟩ := ih hl.2
    obtain ⟨h1, h2⟩ := h hl.1
    exact ⟨List.forall_mem_cons.2 ⟨h2, hm⟩, .cons h1 hle⟩

/-- R166: each totalizer of the second set is the first set's, or a rise of it. -/
def Totalizers.risesTo (a b : Totalizers) : Prop := List.Forall₂ Rises a.list b.list

@[simp] theorem Totalizers.risesTo_self (a : Totalizers) : a.risesTo a := List.forall₂_same.2 fun _ _ => rises_self _

theorem Totalizers.risesTo.trans {a b c : Totalizers} (hab : a.risesTo b) (hbc : b.risesTo c) : a.risesTo c :=
  forall₂_rises_trans hab hbc

theorem Totalizers.risesTo.inRange {a b : Totalizers} (h : a.risesTo b) (ha : a.inRange) : b.inRange :=
  (forall₂_rises_le h ha).1

theorem Totalizers.risesTo.atMost {a b : Totalizers} (h : a.risesTo b) (ha : a.inRange) : a.atMost b :=
  (forall₂_rises_le h ha).2

theorem zeroTotals_inRange : zeroTotals.inRange := by unfold Totalizers.inRange; decide

theorem committedTotals_rises (a : Totalizers) : a.risesTo (committedTotals a) := by
  simp [Totalizers.risesTo, Totalizers.list, committedTotals]

/-! ### What a quiet event leaves -/

/-- R178, R185: the frame in progress, the count of its bytes, and the level of DRST. -/
def DashLink.held (d : DashLink) : FrameState × Nat × Bool := (d.frame, d.counted, d.drstLow)

@[simp] theorem DashLink.raise_held (d : DashLink) (e : Event) : (d.raise e).held = d.held := rfl

/-- R90, R91: what the store holds of its write and of the mirror. -/
def Store.underWay (t : Store) : StoreState × Mirror × Option StoreWrite := (t.state, t.mirror, t.write)

/-- R189: notices may be posted: the part is ACTIVE, or `stray` holds, which the use of it excludes. -/
def MayPost (stray : Prop) (s : State) : Prop := stray ∨ s.supply.power = .active

/-- The event leaves the power state, the frame and its count, the level of DRST and the store write under way; it lowers no
totalizer, and outside ACTIVE it leaves the notices. -/
structure Quiet (stray : Prop) (s t : State) : Prop where
  power : t.supply.power = s.supply.power
  dash : t.dash.held = s.dash.held
  store : t.store.underWay = s.store.underWay
  tot : s.tot.risesTo t.tot
  notices : MayPost stray s ∨ t.link.notices = s.link.notices

variable {stray : Prop} {s t u : State}

theorem Quiet.refl (s : State) : Quiet stray s s := ⟨rfl, rfl, rfl, s.tot.risesTo_self, .inr rfl⟩

theorem Quiet.mayPost (h : Quiet stray s t) : MayPost stray t ↔ MayPost stray s := by rw [MayPost, MayPost, h.power]

theorem Quiet.trans (a : Quiet stray s t) (b : Quiet stray t u) : Quiet stray s u where
  power := b.power.trans a.power
  dash := b.dash.trans a.dash
  store := b.store.trans a.store
  tot := a.tot.trans b.tot
  notices := by
    rcases a.notices with h | ha
    · exact .inl h
    · rcases b.notices with h | hb
      · exact .inl (a.mayPost.1 h)
      · exact .inr (hb.trans ha)

/-- What an event does where it is taken is quiet, and it does nothing elsewhere. -/
theorem Quiet.ite {c : Prop} [Decidable c] (h : c → Quiet stray s t) : Quiet stray s (if c then t else s) := by
  split
  · rename_i hc; exact h hc
  · exact .refl s

/-- As `Quiet.ite`, for an event that is taken where a condition fails. -/
theorem Quiet.ite_not {c : Prop} [Decidable c] (h : ¬c → Quiet stray s t) : Quiet stray s (if c then s else t) := by
  split
  · exact .refl s
  · rename_i hc; exact h hc

/-- A quiet event on each slot in order. -/
theorem forSlots_quiet {f : Fin 4 → State → State} (hm : MayPost stray s)
    (h : ∀ i u, MayPost stray u → Quiet stray u (f i u)) : Quiet stray s (forSlots f s) := by
  have h0 := h 0 s hm
  have h1 := h0.trans (h 1 _ (h0.mayPost.2 hm))
  have h2 := h1.trans (h 2 _ (h1.mayPost.2 hm))
  exact h2.trans (h 3 _ (h2.mayPost.2 hm))

/-! ### Notices, the sign and the records -/

theorem State.followSign_quiet (s : State) : Quiet stray s s.followSign := by constructor <;> simp

theorem State.raise_quiet (e : Event) (s : State) : Quiet stray s (s.raise e) := ⟨rfl, rfl, rfl, by simp, .inr rfl⟩

theorem State.post_quiet (x : Station) (n : Notice) (hm : MayPost stray s) : Quiet stray s (s.post x n) :=
  ⟨rfl, rfl, rfl, by simp, .inl hm⟩

theorem State.postDue_quiet (v : Trip) (hm : MayPost stray s) : Quiet stray s (s.postDue v) := by
  constructor <;> simp [hm]

theorem State.accept_quiet (x : Station) (kind : Byte) (v : Trip) (hm : MayPost stray s) :
    Quiet stray s (s.accept x kind v) := State.post_quiet x _ hm

theorem State.deny_quiet (x : Station) (kind : Byte) (r : Reason) (o : Option Trip) (hm : MayPost stray s) :
    Quiet stray s (s.deny x kind r o) := by
  constructor <;> simp [hm]

theorem State.sendHold_quiet (a b : Trip) (hm : MayPost stray s) : Quiet stray s (s.sendHold a b) := by
  constructor <;> simp [hm]

/-- R105: a hold warning posts TOP_UP. -/
theorem State.holdWarning_quiet (i : Fin 4) (hm : MayPost stray s) : Quiet stray s (s.holdWarning i) := by
  have hwarn : ∀ o x n e, Quiet stray s (((s.putSlot i o).post x n).raise e) := fun o x n e =>
    ⟨rfl, rfl, rfl, by simp, .inl hm⟩
  unfold State.holdWarning
  split
  · exact .refl s
  split
  · exact .refl s
  · exact .ite fun _ => hwarn ..

theorem State.putSlot_quiet (i : Fin 4) (o : Option Trip) (s : State) : Quiet stray s (s.putSlot i o) :=
  ⟨rfl, rfl, rfl, by simp, .inr rfl⟩

theorem State.modSlot_quiet (i : Fin 4) (f : Trip → Trip) (s : State) : Quiet stray s (s.modSlot i f) :=
  s.putSlot_quiet i _

theorem State.engine_quiet (i : Fin 4) (old new : Trip) (hm : MayPost stray s) : Quiet stray s (s.engine i old new) := by
  have hput : Quiet stray s (s.putSlot i (some new)) := s.putSlot_quiet i _
  unfold State.engine
  split
  · exact hput
  · exact hput.trans (State.holdWarning_quiet i (hput.mayPost.2 hm))

theorem State.settleSlot_quiet (k : Nat) (i : Fin 4) (hm : MayPost stray s) : Quiet stray s (s.settleSlot k i) := by
  unfold State.settleSlot
  split
  · exact .refl s
  · exact .ite fun _ => State.engine_quiet i _ _ hm

theorem State.creditSlot_quiet (k : Nat) (i : Fin 4) (hm : MayPost stray s) : Quiet stray s (s.creditSlot k i) := by
  unfold State.creditSlot
  split
  · exact .refl s
  · exact .ite fun _ => State.engine_quiet i _ _ hm

/-- R30: with no fare RUNNING a fare second does nothing. -/
theorem State.fareSecond_quiet (hm : s.runningCount ≠ 0 → MayPost stray s) : Quiet stray s s.fareSecond :=
  .ite_not fun hr => (forSlots_quiet (hm hr) fun i _ hu => State.creditSlot_quiet _ i hu).trans
    ⟨rfl, rfl, rfl, by simp, .inr rfl⟩

/-- R77: an evaluation posts no notice. -/
theorem State.evaluate_quiet (s : State) : Quiet stray s s.evaluate where
  power := by simp
  dash := by rw [State.evaluate_dash]; split <;> rfl
  store := by simp
  tot := by simp
  notices := by simp

/-! ### The parts of a rollover -/

theorem State.closeSecond_quiet (s : State) : Quiet stray s s.closeSecond where
  power := by simp
  dash := by unfold State.closeSecond; split <;> rfl
  store := by simp
  tot := by simp
  notices := by simp

theorem State.paymentExpires_quiet (i : Fin 4) (v : Trip) (hm : MayPost stray s) :
    Quiet stray s (s.paymentExpires i v) := by
  have hput : Quiet stray s ((s.putSlot i (some (v.endPayment .timedOut 0))).raise .fare) :=
    (s.putSlot_quiet i _).trans (State.raise_quiet _ _)
  exact hput.trans (State.postDue_quiet v (hput.mayPost.2 hm))

theorem State.paymentTick_quiet (i : Fin 4) (hm : MayPost stray s) : Quiet stray s (s.paymentTick i) := by
  unfold State.paymentTick
  split
  · exact .refl s
  refine .ite fun _ => ?_
  split
  · exact State.paymentExpires_quiet i _ hm
  · exact s.putSlot_quiet i _

theorem State.fareTimers_quiet (hm : MayPost stray s) : Quiet stray s s.fareTimers := by
  have hgrace : Quiet stray s (forSlots graceTick s) := forSlots_quiet hm fun i u _ => u.modSlot_quiet i _
  exact hgrace.trans (forSlots_quiet (hgrace.mayPost.2 hm) fun i _ hu => State.paymentTick_quiet i hu)

theorem State.callExpires_quiet (x : Station) (s : State) : Quiet stray s (s.callExpires x) :=
  ⟨rfl, rfl, rfl, by simp, .inr rfl⟩

theorem State.onIc_quiet (f : Intercom → Intercom) (s : State) : Quiet stray s (s.onIc f) :=
  ⟨rfl, rfl, rfl, by simp, .inr rfl⟩

theorem State.onSign_quiet (f : Sign → Sign) (s : State) : Quiet stray s (s.onSign f) :=
  ⟨rfl, rfl, rfl, by simp, .inr rfl⟩

theorem State.callTick_quiet (x : Station) (s : State) : Quiet stray s (s.callTick x) :=
  .ite fun _ => by
    split
    · exact s.callExpires_quiet x
    · exact s.onIc_quiet _

theorem State.intercomTick_quiet (s : State) : Quiet stray s s.intercomTick :=
  ((s.callTick_quiet .left).trans (State.callTick_quiet .right _)).trans (State.onIc_quiet _ _)

theorem State.minuteTick_quiet (s : State) : Quiet stray s s.minuteTick := .ite fun _ => s.evaluate_quiet

theorem State.inActive_quiet {f : State → State} (h : s.supply.power = .active → Quiet stray s (f s)) :
    Quiet stray s (s.inActive f) := .ite h

theorem State.outsideHoldover_quiet {f : State → State} (h : Quiet stray s (f s)) :
    Quiet stray s (s.outsideHoldover f) := .ite_not fun _ => h

/-! ### Samples, edges and notice reads -/

theorem State.svcSample_quiet (high : Bool) (s : State) : Quiet stray s (s.sampleSwitch high) := by
  have hstore : (s.store.sampleSwitch high).underWay = s.store.underWay := by
    unfold Store.sampleSwitch
    repeat' split
    all_goals rfl
  unfold State.sampleSwitch
  split
  · exact ⟨rfl, rfl, hstore, by simp [Totalizers.risesTo, Totalizers.list], .inr rfl⟩
  · exact ⟨rfl, rfl, hstore, by simp, .inr rfl⟩

theorem State.sampleLamps_quiet (w : Lamps Bool) (s : State) : Quiet stray s (s.sampleLamps w) where
  power := by simp
  dash := by unfold State.sampleLamps State.raiseIf; split <;> rfl
  store := by simp
  tot := by simp
  notices := by simp

theorem State.sampleSensor_quiet (high : Bool) (s : State) : Quiet stray s (s.sampleSensor high) where
  power := by simp
  dash := by
    unfold State.sampleSensor
    repeat' split
    all_goals rfl
  store := by simp
  tot := by simp
  notices := by simp

theorem State.metre_quiet (s : State) : Quiet stray s s.metre where
  power := by simp
  dash := by simp
  store := by simp
  tot := by
    unfold State.metre
    split
    · simp [State.countMetre, forSlots, metreOnSlot, Totalizers.risesTo, Totalizers.list]
    · simp
  notices := by simp

theorem State.edge_quiet (k : Nat) (s : State) : Quiet stray s (s.edge k) := by
  have hdist : ∀ f, Quiet stray s (s.onDist f) := fun _ => ⟨rfl, rfl, rfl, by simp, .inr rfl⟩
  unfold State.edge
  split
  · exact (hdist _).trans (State.metre_quiet _)
  · exact hdist _

theorem State.sampleButton_quiet (x : Station) (pressed : Bool) (s : State) : Quiet stray s (s.sampleButton x pressed) where
  power := by simp [State.sampleButton]
  dash := by
    unfold State.sampleButton State.buttonAction State.call
    repeat' split
    all_goals rfl
  store := by simp [State.sampleButton]
  tot := by simp [State.sampleButton]
  notices := by simp [State.sampleButton]

theorem State.readNotice_quiet (part : ReadPart) (hm : MayPost stray s) : Quiet stray s (s.readNotice part) := by
  cases part <;> constructor <;> simp [State.readNotice, hm]

theorem State.judgeWrite_quiet (bytes : List Byte) (hm : MayPost stray s) : Quiet stray s (s.judgeWrite bytes) where
  power := by simp
  dash := by
    unfold State.judgeWrite State.discardWrite State.ackDiscard
    repeat' split
    all_goals simp
  store := by simp
  tot := by simp
  notices := .inl hm

end Sys2Proof.Machine
end

section
/-! SUPPORT. The dashboard commands and the partition messages as quiet events, but for the frame that holds the answer and
the two commands that begin a store write. -/

namespace Sys2Proof.Machine

variable {stray : Prop} {s u : State}

/-! ### Checks -/

/-- A check that refuses leaves the state as it was; the command goes on where it passes. -/
theorem Quiet.unlessRefused {c : Prop} [Decidable c] {length : Nat} {code : ResultCode} {x : Reply × State}
    (h : Quiet stray s x.2) : Quiet stray s (if c then refuse length code s else x).2 := by
  split
  · exact .refl s
  · exact h

/-- A check that a command passes to be carried out, and is refused otherwise. -/
theorem Quiet.whenTaken {c : Prop} [Decidable c] {length : Nat} {code : ResultCode} {x : Reply × State}
    (h : Quiet stray s x.2) : Quiet stray s (if c then x else refuse length code s).2 := by
  split
  · exact h
  · exact .refl s

/-- A check that denies a message posts its ACK; the message goes on where it passes. -/
theorem Quiet.unlessDenied {c : Prop} [Decidable c] {x : Station} {kind : Byte} {r : Reason} {o : Option Trip}
    (hm : MayPost stray s) (h : Quiet stray s u) : Quiet stray s (if c then s.deny x kind r o else u) := by
  split
  · exact State.deny_quiet x kind r o hm
  · exact h

theorem withSlot_quiet {length : Nat} {slot : Byte} {f : Fin 4 → Trip → Reply × State}
    (h : ∀ i t, Quiet stray s (f i t).2) : Quiet stray s (withSlot length slot s f).2 := by
  rcases withSlot_cases length slot s f with ⟨-, e⟩ | ⟨i, -, -, e⟩ | ⟨i, t, -, -, e⟩ <;> rw [e]
  · exact .refl s
  · exact .refl s
  · exact h i t

theorem withFare_quiet {x : Station} {kind : Byte} {n : Nat} {f : Fin 4 → Trip → State} (hm : MayPost stray s)
    (h : ∀ i t, Quiet stray s (f i t)) : Quiet stray s (withFare x kind n s f) := by
  rcases withFare_cases x kind n s f with e | ⟨i, t, -, -, -, e⟩ | ⟨i, t, -, -, -, e⟩ <;> rw [e]
  · exact State.deny_quiet _ _ _ _ hm
  · exact State.deny_quiet _ _ _ _ hm
  · exact h i t

/-! ### The fare table's commands (chapter 1) -/

/-- R8: a hiring is counted. -/
theorem State.startFare_quiet (i : Fin 4) (t : Trip) (s : State) : Quiet stray s (s.startFare i t) :=
  ⟨rfl, rfl, rfl, by simp [State.startFare, Totalizers.risesTo, Totalizers.list], .inr rfl⟩

theorem startFareBody_quiet (set share selection tariff : Byte) (s : State) :
    Quiet stray s (startFareBody set share selection tariff s).2 := by
  unfold startFareBody
  split
  · unfold startFareWith
    split
    · exact .refl s
    · refine .unlessRefused (.unlessRefused (.unlessRefused ?_))
      unfold startFareUnder
      refine .unlessRefused (.unlessRefused ?_)
      split
      · exact .refl s
      split
      · exact .refl s
      · exact .unlessRefused (.unlessRefused (s.startFare_quiet ..))
  · exact .refl s

theorem pauseFareBody_quiet (slot : Byte) (hm : MayPost stray s) : Quiet stray s (pauseFareBody slot s).2 :=
  withSlot_quiet fun i _ => .whenTaken ((State.settleSlot_quiet _ i hm).trans (State.modSlot_quiet i _ _))

theorem resumeFareBody_quiet (slot : Byte) (s : State) : Quiet stray s (resumeFareBody slot s).2 :=
  withSlot_quiet fun i _ => .whenTaken (s.putSlot_quiet i _)

theorem State.announceStop_quiet (i : Fin 4) (hm : MayPost stray s) : Quiet stray s (s.announceStop i) := by
  unfold State.announceStop
  split
  · exact .refl s
  · exact (State.postDue_quiet _ hm).trans (State.onIc_quiet _ _)

theorem stopFareBody_quiet (slot : Byte) (hm : MayPost stray s) : Quiet stray s (stopFareBody slot s).2 :=
  withSlot_quiet fun i _ => .whenTaken <| by
    have hstop : Quiet stray s ((s.settleSlot s.runningCount i).modSlot i (Trip.stopAt s.cal.time)) :=
      (State.settleSlot_quiet _ i hm).trans (State.modSlot_quiet i _ _)
    exact hstop.trans (State.announceStop_quiet i (hstop.mayPost.2 hm))

theorem reopenFareBody_quiet (slot : Byte) (s : State) : Quiet stray s (reopenFareBody slot s).2 :=
  withSlot_quiet fun i t => .unlessRefused <| .unlessRefused <| by
    split
    · exact .refl s
    · exact s.putSlot_quiet i _

theorem State.repostDue_quiet (t : Trip) (hm : MayPost stray s) : Quiet stray s (s.repostDue t) :=
  .ite fun _ => State.postDue_quiet t hm

theorem State.addExtra_quiet (i : Fin 4) (t : Trip) (hm : MayPost stray s) : Quiet stray s (s.addExtra i t) := by
  have hput : Quiet stray s (s.putSlot i (some t)) := s.putSlot_quiet i _
  have hwarn := hput.trans (State.holdWarning_quiet i (hput.mayPost.2 hm))
  exact hwarn.trans (State.repostDue_quiet t (hwarn.mayPost.2 hm))

theorem addExtraBody_quiet (slot : Byte) (kind count : Nat) (hm : MayPost stray s) :
    Quiet stray s (addExtraBody slot kind count s).2 :=
  withSlot_quiet fun i _ =>
    .unlessRefused <| .unlessRefused <| .unlessRefused <| .unlessRefused <| .unlessRefused (State.addExtra_quiet i _ hm)

theorem cancelExtraBody_quiet (slot : Byte) (kind : Nat) (hm : MayPost stray s) :
    Quiet stray s (cancelExtraBody slot kind s).2 :=
  withSlot_quiet fun i _ => .unlessRefused <| .unlessRefused <| .unlessRefused <| .unlessRefused <| by
    have hput := fun o => s.putSlot_quiet (stray := stray) i o
    exact (hput _).trans (State.repostDue_quiet _ ((hput _).mayPost.2 hm))

/-- R18: a completed trip and its money are counted. -/
theorem releaseTripBody_quiet (slot : Byte) (trip : Nat) (s : State) : Quiet stray s (releaseTripBody slot trip s).2 :=
  withSlot_quiet fun _ _ => .unlessRefused <| .unlessRefused <| .unlessRefused
    ⟨rfl, rfl, rfl, by simp [ok, State.releaseTrip, Totalizers.risesTo, Totalizers.list], .inr rfl⟩

/-! ### Settlement (chapter 6) -/

theorem State.settleByDriver_quiet (i : Fin 4) (t : Trip) (m : Method) (captured tip : Nat) (hm : MayPost stray s) :
    Quiet stray s (s.settleByDriver i t m captured tip) := by
  have hput : ∀ o f, Quiet stray s ((s.putSlot i o).credit f) := fun _ _ => ⟨rfl, rfl, rfl, by simp, .inr rfl⟩
  have hsend := fun o f a b => (hput o f).trans (State.sendHold_quiet a b ((hput o f).mayPost.2 hm))
  exact (hsend ..).trans (State.onIc_quiet _ _)

theorem recordCashBody_quiet (slot : Byte) (tip : Nat) (hm : MayPost stray s) :
    Quiet stray s (recordCashBody slot tip s).2 :=
  withSlot_quiet fun i t => .unlessRefused <| .unlessRefused <| .unlessRefused <|
    (State.settleByDriver_quiet i t _ _ _ hm).trans (State.onIc_quiet _ _)

theorem declareUnpaidBody_quiet (slot : Byte) (hm : MayPost stray s) : Quiet stray s (declareUnpaidBody slot s).2 :=
  withSlot_quiet fun i t => .unlessRefused <| .unlessRefused <| State.settleByDriver_quiet i t _ _ _ hm

theorem holdPlacedBody_quiet (x : Station) (trip reference amount : Nat) (hm : MayPost stray s) :
    Quiet stray s (holdPlacedBody x trip reference amount s) :=
  .unlessDenied hm <| withFare_quiet hm fun i t => by
    unfold holdPlacedOn
    split
    · split
      · exact State.accept_quiet x _ t hm
      · exact State.deny_quiet x _ _ _ hm
    · refine .unlessDenied hm (.unlessDenied hm ?_)
      have hput : ∀ o n, Quiet stray s (((s.putSlot i o).raise .hold).post x n) := fun _ _ =>
        ⟨rfl, rfl, rfl, by simp, .inl hm⟩
      exact (hput _ _).trans (State.holdWarning_quiet i ((hput _ _).mayPost.2 hm))

theorem State.releaseHold_quiet (x : Station) (i : Fin 4) (t : Trip) (hm : MayPost stray s) :
    Quiet stray s (s.releaseHold x i t) := by
  unfold State.releaseHold State.acceptRelease
  split <;> exact ⟨rfl, rfl, rfl, by simp, .inl hm⟩

theorem holdReleasedBody_quiet (x : Station) (reference : Nat) (hm : MayPost stray s) :
    Quiet stray s (holdReleasedBody x reference s) :=
  .unlessDenied hm <| by
    split
    · exact State.deny_quiet x _ _ _ hm
    split
    · exact State.deny_quiet x _ _ _ hm
    · exact State.releaseHold_quiet x _ _ hm

theorem payBeginOn_quiet (x : Station) (i : Fin 4) (t : Trip) (hm : MayPost stray s) :
    Quiet stray s (payBeginOn x i t s) :=
  .unlessDenied hm <| .unlessDenied hm ⟨rfl, rfl, rfl, by simp, .inl hm⟩

theorem State.payDeclined_quiet (x : Station) (i : Fin 4) (t : Trip) (hm : MayPost stray s) :
    Quiet stray s (s.payDeclined x i t) := by
  constructor <;> simp [State.payDeclined, hm]

theorem State.payCancelled_quiet (x : Station) (i : Fin 4) (t : Trip) (hm : MayPost stray s) :
    Quiet stray s (s.payCancelled x i t) := by
  constructor <;> simp [State.payCancelled, hm]

theorem payResultBody_quiet (x : Station) (trip : Nat) (outcome : Byte) (captured tip reference : Nat)
    (hm : MayPost stray s) : Quiet stray s (payResultBody x trip outcome captured tip reference s) := by
  unfold payResultBody
  split
  · exact State.deny_quiet x _ _ _ hm
  refine .unlessDenied hm (withFare_quiet hm fun i t => ?_)
  unfold payResultOn
  split
  · split
    · exact State.accept_quiet x _ t hm
    · exact State.deny_quiet x _ _ _ hm
  refine .unlessDenied hm ?_
  split
  · exact .unlessDenied hm (.unlessDenied hm ⟨rfl, rfl, rfl, by simp [State.settleByCard], .inl hm⟩)
  · exact State.payDeclined_quiet x i t hm
  · exact State.payCancelled_quiet x i t hm

theorem payVoidBody_quiet (x : Station) (trip reference : Nat) (hm : MayPost stray s) :
    Quiet stray s (payVoidBody x trip reference s) :=
  .unlessDenied hm <| withFare_quiet hm fun i t =>
    .unlessDenied hm <| .unlessDenied hm <| .unlessDenied hm <| .unlessDenied hm <| by
      constructor <;> simp [State.voidPayment, hm]

/-! ### The calendar and the shift unit (chapters 4 and 9) -/

theorem setClockBody_quiet (now : Stamp) (s : State) : Quiet stray s (setClockBody now s).2 := by
  have hset : ∀ f, Quiet stray s (s.onCal f) := fun _ => ⟨rfl, rfl, rfl, by simp, .inr rfl⟩
  exact .unlessRefused <| .unlessRefused <| .unlessRefused <| (hset _).trans (State.evaluate_quiet _)

theorem adjustClockBody_quiet (request : Int) (s : State) : Quiet stray s (adjustClockBody request s).2 := by
  have hmove : ∀ f g, Quiet stray s ((s.onCal f).credit g) := fun _ _ => ⟨rfl, rfl, rfl, by simp, .inr rfl⟩
  unfold adjustClockBody
  split
  · exact .refl s
  · exact .unlessRefused <| .unlessRefused <| .unlessRefused <| (hmove _ _).trans (State.evaluate_quiet _)

/-- R154: an opening is counted. -/
theorem shiftOpenBody_quiet (driver : Nat) (s : State) : Quiet stray s (shiftOpenBody driver s).2 :=
  .unlessRefused <| .unlessRefused <| .unlessRefused <| .unlessRefused
    ⟨rfl, rfl, rfl, by simp [ok, State.openShift, countOpening, Totalizers.risesTo, Totalizers.list], .inr rfl⟩

/-! ### The store's own commands -/

theorem stageWriteBody_quiet (selector value : Nat) (s : State) : Quiet stray s (stageWriteBody selector value s).2 :=
  .unlessRefused <| .unlessRefused <| by
    split <;> exact ⟨rfl, rfl, rfl, by simp, .inr rfl⟩

/-! ### The sign's commands -/

theorem okSign_quiet (h : Quiet stray s u) : Quiet stray s (okSign u).2 := h.trans u.followSign_quiet

end Sys2Proof.Machine
end

section
/-! SUPPORT. What every event keeps (O12, O13): the totalizers rising, the counts of the mirror and of a write in 32 bits, the
notices and frames to ACTIVE, the byte count to a frame that has one, and the store IDLE in HOLDOVER. -/

namespace Sys2Proof.Machine

/-! ### Counts that the store holds (R90, R91) -/

/-- R90: both mirror copies hold 32-bit counts. -/
def Mirror.inRange (m : Mirror) : Prop := m.first.totals.inRange ∧ m.second.totals.inRange

/-- R90, R91: both mirror copies and a write under way hold 32-bit counts. -/
def Store.inRange (t : Store) : Prop := t.mirror.inRange ∧ ∀ w, t.write = some w → w.totals.inRange

theorem totalsInRange_iff {s : State} : TotalsInRange s ↔ s.tot.inRange ∧ s.store.inRange :=
  ⟨fun ⟨ht, h1, h2, hw⟩ => ⟨ht, ⟨h1, h2⟩, hw⟩, fun ⟨ht, ⟨h1, h2⟩, hw⟩ => ⟨ht, h1, h2, hw⟩⟩

theorem Mirror.inRange.get {m : Mirror} (h : m.inRange) (c : CopyName) : (m.get c).totals.inRange := by
  cases c
  · exact h.1
  · exact h.2

theorem Mirror.inRange.set {m : Mirror} (h : m.inRange) (c : CopyName) {x : MirrorCopy} (hx : x.totals.inRange) :
    (m.set c x).inRange := by
  cases c
  · exact ⟨hx, h.2⟩
  · exact ⟨h.1, hx⟩

/-- R90: the mirror's value is that of a copy, or 0. -/
theorem Mirror.inRange.value {m : Mirror} (h : m.inRange) : m.value.inRange := by
  unfold Mirror.value
  split
  · exact h.get _
  · exact zeroTotals_inRange

theorem Store.inRange.congr {t t' : Store} (h : t.inRange) (e : t'.underWay = t.underWay) : t'.inRange := by
  obtain ⟨-, hmirror, hwrite⟩ : t'.state = t.state ∧ t'.mirror = t.mirror ∧ t'.write = t.write := by
    simpa [Store.underWay] using e
  rw [Store.inRange, hmirror, hwrite]
  exact h

theorem Store.inRange.beginCommit {t : Store} {tot : Totalizers} (h : t.inRange) (ht : tot.inRange) :
    (t.beginCommit tot).inRange := by
  refine ⟨h.1.set _ (h.1.get t.mirror.target), fun w hw => ?_⟩
  cases hw
  exact (committedTotals_rises tot).inRange ht

theorem Store.inRange.beginMirror {t : Store} {tot : Totalizers} (h : t.inRange) (ht : tot.inRange) :
    (t.beginMirror tot).inRange := by
  refine ⟨h.1.set _ (h.1.get t.mirror.target), fun w hw => ?_⟩
  cases hw
  exact ht

theorem Store.inRange.complete {t : Store} {w : StoreWrite} (h : t.inRange) (hw : t.write = some w) :
    ((t.completeMirror w).endWrite).inRange := ⟨h.1.set _ (h.2 w hw), nofun⟩

theorem Store.inRange.resolved {t : Store} {tot : Totalizers} (h : t.inRange) (ht : tot.inRange) :
    (t.resolved tot).inRange := by
  unfold Store.resolved
  split
  · exact h
  · exact h.congr rfl
  · exact h.beginMirror ht

theorem coldTotals_inRange {t : Store} (h : t.inRange) : (coldTotals t).inRange :=
  Totalizers.risesTo.inRange (by simp [coldTotals, Totalizers.risesTo, Totalizers.list]) h.1.value

/-! ### What every event keeps -/

/-- The event raises totalizers alone, and keeps each condition of O12 and O13; the notices unless `stray` holds. -/
structure Kept (stray : Prop) (s t : State) : Prop where
  tot : s.tot.risesTo t.tot
  store : s.tot.inRange → s.store.inRange → t.store.inRange
  notices : ¬stray → NoticesOnlyActive s → NoticesOnlyActive t
  frames : FramesOnlyActive s → FramesOnlyActive t
  counted : FramesOnlyActive s → CountStartsAtZero s → CountStartsAtZero t
  idle : StoreIdleUnpowered s → StoreIdleUnpowered t

variable {stray : Prop} {s t u : State}

theorem Kept.trans (a : Kept stray s t) (b : Kept stray t u) : Kept stray s u where
  tot := a.tot.trans b.tot
  store ht h := b.store (a.tot.inRange ht) (a.store ht h)
  notices hs h := b.notices hs (a.notices hs h)
  frames h := b.frames (a.frames h)
  counted hf h := b.counted (a.frames hf) (a.counted hf h)
  idle h := b.idle (a.idle h)

theorem Quiet.kept (h : Quiet stray s t) : Kept stray s t := by
  obtain ⟨hpower, hdash, hstore, htot, hnotices⟩ := h
  obtain ⟨hframe, hcount, hdrst⟩ : t.dash.frame = s.dash.frame ∧ t.dash.counted = s.dash.counted
      ∧ t.dash.drstLow = s.dash.drstLow := by simpa [DashLink.held] using hdash
  refine ⟨htot, fun _ h => h.congr hstore, fun hs h => ?_, ?_, ?_, ?_⟩
  · intro hp
    rw [hpower] at hp
    rcases hnotices with hm | e
    · exact absurd (hm.resolve_left hs) hp
    · rw [e]; exact h hp
  · rw [FramesOnlyActive, FramesOnlyActive, hframe, hdrst, hpower]; exact id
  · rw [CountStartsAtZero, CountStartsAtZero, hframe, hcount]; exact fun _ => id
  · rw [StoreIdleUnpowered, StoreIdleUnpowered, hpower, show t.store.state = s.store.state from congrArg Prod.fst hstore]
    exact id

theorem Kept.refl (s : State) : Kept stray s s := (Quiet.refl s).kept

/-- What an event does where it is taken keeps the conditions, and it does nothing elsewhere. -/
theorem Kept.ite {c : Prop} [Decidable c] (h : c → Kept stray s t) : Kept stray s (if c then t else s) := by
  split
  · rename_i hc; exact h hc
  · exact .refl s

/-- As `Kept.ite`, for an event that is taken where a condition fails. -/
theorem Kept.ite_not {c : Prop} [Decidable c] (h : ¬c → Kept stray s t) : Kept stray s (if c then s else t) := by
  split
  · exact .refl s
  · rename_i hc; exact h hc

/-! ### The frame -/

/-- A change of the dashboard link alone. -/
theorem Kept.onDash {f : DashLink → DashLink} (hf : FramesOnlyActive s → FramesOnlyActive (s.onDash f))
    (hc : FramesOnlyActive s → CountStartsAtZero s → CountStartsAtZero (s.onDash f)) : Kept stray s (s.onDash f) :=
  ⟨s.tot.risesTo_self, fun _ h => h, fun _ h => h, hf, hc, fun h => h⟩

/-- R173, R179, R185: a frame ended or given up, with no byte counted. -/
theorem Kept.endsFrame {f : DashLink → DashLink} (hf : (f s.dash).frame = .idle) (hc : (f s.dash).counted = 0) :
    Kept stray s (s.onDash f) := .onDash (fun _ _ => hf) (fun _ _ _ => hc)

/-- R174, R184: a frame begun in ACTIVE while DRST is high. -/
theorem State.putFrame_kept (f : FrameState) (hp : s.supply.power = .active) (hd : s.dash.drstLow = false) :
    Kept stray s (s.putFrame f) := by
  refine .onDash (fun _ h => ?_) (fun _ _ _ => rfl)
  rcases h with h | h
  · exact absurd (hd.symm.trans h) nofun
  · exact absurd hp h

/-- R185: a frame in progress, where DRST is high and the part ACTIVE. -/
theorem FramesOnlyActive.of_frame (h : FramesOnlyActive s) (hf : s.dash.frame ≠ .idle) :
    s.dash.drstLow = false ∧ s.supply.power = .active := by
  by_contra hc
  refine hf (h ?_)
  rw [not_and_or] at hc
  simpa using hc

/-- R184: the byte that ends watch mode keeps its frame in progress. -/
theorem DashLink.exitWatch_kept (h : s.dash.awaitsExit = true) : Kept stray s (s.onDash DashLink.exitWatch) := by
  obtain ⟨snapshot, hw⟩ : ∃ b, s.dash.frame = .watching b := by
    unfold DashLink.awaitsExit at h
    split at h
    · exact ⟨_, ‹_›⟩
    · cases h
  have hframe : (s.onDash DashLink.exitWatch).dash.frame = .watchEnded snapshot := by
    simp [DashLink.exitWatch, hw]
  have hdrst : (s.onDash DashLink.exitWatch).dash.drstLow = s.dash.drstLow := by simp [DashLink.exitWatch, hw]
  refine .onDash (fun hf hshut => ?_) (fun _ _ hc => ?_)
  · obtain ⟨hd, hp⟩ := hf.of_frame (by rw [hw]; nofun)
    rw [hdrst, hd] at hshut
    exact absurd hp (hshut.resolve_left nofun)
  · rw [hframe] at hc
    rcases hc with hc | hc <;> cases hc

/-- R179: an answer held in the frame of a command that is taken. -/
theorem State.answerFrame_kept (args : Nat) (r : Reply) (h : s.serves = true) : Kept stray s (s.answerFrame args r) := by
  obtain ⟨hp, hr⟩ : s.supply.power = .active ∧ s.dash.frame = .receiving := by simpa [State.serves] using h
  refine .onDash (fun hf hshut => ?_) (fun _ _ hc => ?_)
  · obtain ⟨hd, -⟩ := hf.of_frame (by rw [hr]; nofun)
    rcases hshut with hshut | hshut
    · exact absurd (hd.symm.trans hshut) nofun
    · exact absurd hp hshut
  · rcases hc with hc | hc <;> cases hc

/-- R178, R179: bytes that are no command are counted in a frame in progress that takes none. -/
theorem DashLink.ignore_kept (bytes : Nat) (h : s.serves = false) : Kept stray s (s.onDash (·.ignore bytes)) := by
  refine .onDash (fun hf => ?_) (fun hf hc hopen => ?_)
  · rw [FramesOnlyActive, State.onDash_dash, DashLink.ignore_frame, DashLink.ignore_drstLow]
    exact hf
  · rw [State.onDash_dash, DashLink.ignore_frame] at hopen
    rw [State.onDash_dash, DashLink.ignore_eq]
    rcases hopen with hi | hr
    · simp [hi, hc (.inl hi)]
    · obtain ⟨-, hp⟩ := hf.of_frame (by rw [hr]; nofun)
      exact absurd h (by simp [State.serves, hp, hr])

/-- A command keeps the conditions where what it does keeps them and leaves the frame open for its answer. -/
theorem takeCommand_kept {args : Nat} {body : State → Reply × State}
    (h : s.supply.power = .active → Kept stray s (body s).2)
    (hs : s.serves = true → (body s).2.serves = true) : Kept stray s (takeCommand args body s) := by
  rcases takeCommand_cases args body s with ⟨hn, e⟩ | ⟨ht, e⟩ <;> rw [e]
  · exact DashLink.ignore_kept _ hn
  · have hp : s.supply.power = .active := by simp [State.serves] at ht; exact ht.1
    exact ((h hp).trans (State.answerFrame_kept _ _ (hs ht))).trans (State.followSign_quiet _).kept

theorem Quiet.serves (h : Quiet stray s t) : t.serves = s.serves := by
  rw [State.serves, State.serves, h.power, show t.dash.frame = s.dash.frame from congrArg Prod.fst h.dash]

/-- A command that is quiet but for its answer. -/
theorem takeCommand_quiet {args : Nat} {body : State → Reply × State}
    (h : MayPost stray s → Quiet stray s (body s).2) : Kept stray s (takeCommand args body s) :=
  takeCommand_kept (fun hp => (h (.inr hp)).kept) fun hs => by
    have hp : s.supply.power = .active := by simp [State.serves] at hs; exact hs.1
    exact (h (.inr hp)).serves.trans hs

theorem takeMessage_quiet {body : State → State} (h : MayPost stray s → Quiet stray s (body s)) :
    Kept stray s (takeMessage body s) := by
  rcases takeMessage_cases body s with ⟨-, e⟩ | ⟨hp, e⟩ <;> rw [e]
  · exact .refl s
  · exact ((h (.inr hp)).trans (State.followSign_quiet _)).kept

/-- R184: a byte that is no command code. -/
theorem State.takeUnlisted_kept (code : Byte) (s : State) : Kept stray s (s.takeUnlisted code) := by
  unfold State.takeUnlisted
  split
  · rename_i h; exact DashLink.exitWatch_kept h.2
  · exact takeCommand_quiet fun _ => .refl s

/-! ### The store's writes (R91 to R95) -/

/-- A change of the store alone. -/
theorem Kept.onStore {f : Store → Store} (hr : s.tot.inRange → s.store.inRange → (f s.store).inRange)
    (hi : StoreIdleUnpowered s → s.supply.power = .holdover → (f s.store).state = .idle) : Kept stray s (s.onStore f) :=
  ⟨s.tot.risesTo_self, hr, fun _ h => h, fun h => h, fun _ h => h, hi⟩

theorem commitBody_kept (hp : s.supply.power = .active) : Kept stray s (commitBody s).2 := by
  unfold commitBody
  repeat' split
  case h_2 =>
    exact .onStore (fun ht h => h.beginCommit ht) (fun _ hh => absurd (hp.symm.trans hh) nofun)
  all_goals exact .refl s

theorem commitBody_serves (s : State) : (commitBody s).2.serves = s.serves := by
  unfold commitBody
  repeat' split
  all_goals rfl

theorem State.beginClose_kept (hp : s.supply.power = .active) : Kept stray s s.beginClose := by
  have hclosing : Quiet stray s (s.setShiftState .closing) := ⟨rfl, rfl, rfl, by simp [State.setShiftState], .inr rfl⟩
  exact hclosing.kept.trans
    (.onStore (fun ht h => h.beginMirror ht) (fun _ hh => absurd (hp.symm.trans hh) nofun))

theorem shiftCloseBody_kept (hp : s.supply.power = .active) : Kept stray s (shiftCloseBody s).2 := by
  unfold shiftCloseBody
  repeat' split
  case h_2.isFalse.isFalse.isFalse.isFalse => exact State.beginClose_kept hp
  all_goals exact .refl s

theorem shiftCloseBody_serves (s : State) : (shiftCloseBody s).2.serves = s.serves := by
  unfold shiftCloseBody
  repeat' split
  all_goals rfl

/-- R93: the mirror copy takes the counts that the write carries. -/
theorem State.commitSucceeds_kept {w : StoreWrite} (hw : s.store.write = some w) : Kept stray s (s.commitSucceeds w) := by
  have hdone : Kept stray s (s.onStore (·.commitDone w)) :=
    .onStore (fun _ h => (h.complete hw).congr rfl) (fun _ _ => rfl)
  have hcount : ∀ v : State, ∀ f, Quiet stray v (((v.count committedTotals).raise .commitDone).onDist f) :=
    fun v _ => ⟨rfl, rfl, rfl, committedTotals_rises v.tot, .inr rfl⟩
  exact (hdone.trans (hcount _ _).kept).trans (State.evaluate_quiet _).kept

theorem State.commitFails_kept (s : State) : Kept stray s s.commitFails := by
  have hend : Kept stray s (s.onStore Store.commitFailed) := .onStore (fun _ h => ⟨h.1, nofun⟩) (fun _ _ => rfl)
  exact hend.trans (Quiet.kept ⟨rfl, rfl, rfl, by simp [State.commitFails], .inr rfl⟩)

theorem State.closeShift_quiet (s : State) : Quiet stray s s.closeShift where
  power := by simp
  dash := by
    unfold State.closeShift
    split
    · rfl
    split
    · simp
    · rfl
  store := by simp
  tot := by simp
  notices := by simp

/-- R95: the mirror copy takes the counts that the write carries. -/
theorem State.mirrorSucceeds_kept {w : StoreWrite} (hw : s.store.write = some w) : Kept stray s (s.mirrorSucceeds w) := by
  have hdone : Kept stray s (s.onStore fun t => (t.completeMirror w).endWrite) :=
    .onStore (fun _ h => h.complete hw) (fun _ _ => rfl)
  exact hdone.trans (State.closeShift_quiet _).kept

/-- R95, R96: a mirror write begins again only where one was in progress, so not in HOLDOVER. -/
theorem mirrorFailure_kept (h : s.store.state = .mirrorWrite) : Kept stray s (s.onStore (·.beginMirror s.tot)) :=
  .onStore (fun ht hr => hr.beginMirror ht) (fun hi hp => absurd ((hi hp).symm.trans h) nofun)

/-! ### The supply (chapter 10) -/

/-- R174: after a wake the part is ACTIVE. -/
theorem State.wake_kept (s : State) : Kept stray s s.wake := by
  have hp : s.wake.supply.power = .active := by simp [State.wake]
  refine ⟨by simp, by simp, fun _ _ h => absurd hp h, fun hf hshut => ?_, fun _ hc => ?_, fun _ hh => ?_⟩
  · rw [State.wake_dash] at hshut ⊢
    exact hf (.inl (hshut.resolve_right fun h => h hp))
  · rw [CountStartsAtZero, State.wake_dash]; exact hc
  · exact absurd (hp.symm.trans hh) nofun

theorem State.wakeIfStandby_kept (s : State) : Kept stray s s.wakeIfStandby := .ite fun _ => s.wake_kept

/-- R173: standby entry empties the notices and gives up the frame. -/
theorem State.enterStandby_kept (s : State) : Kept stray s s.enterStandby := by
  have hlink : s.enterStandby.link.notices = ⟨none, none⟩ := by simp [State.enterStandby, PartitionLink.emptied]
  have hframe : s.enterStandby.dash.frame = .idle := by simp [State.enterStandby, DashLink.abandon]
  have hcount : s.enterStandby.dash.counted = 0 := by simp [State.enterStandby, DashLink.abandon]
  have hp : s.enterStandby.supply.power = .standby := by simp [State.enterStandby, Supply.sleep]
  exact ⟨by simp, by simp, fun _ _ _ => hlink, fun _ _ => hframe, fun _ _ _ => hcount,
    fun _ hh => absurd (hp.symm.trans hh) nofun⟩

theorem State.onSupply_quiet {f : Supply → Supply} (h : (f s.supply).power = s.supply.power) :
    Quiet stray s (s.onSupply f) := ⟨h, rfl, rfl, by simp, .inr rfl⟩

theorem State.sampleIgnition_kept (high : Bool) (s : State) : Kept stray s (s.sampleIgnition high) := by
  have hsample : Kept stray s (s.onSupply (·.sampleIgnition high)) :=
    (State.onSupply_quiet (s.supply.sampleIgnition_power high)).kept
  unfold State.sampleIgnition
  split
  · exact hsample.trans (State.wakeIfStandby_kept _)
  · exact hsample

theorem State.countIgnitionOff_kept (s : State) : Kept stray s s.countIgnitionOff := by
  have hcount : ∀ n : Supply → Nat, Kept stray s (s.onSupply fun v => { v with offTimer := n v }) := fun _ =>
    (State.onSupply_quiet rfl).kept
  unfold State.countIgnitionOff
  dsimp only
  split
  · exact (hcount _).trans (State.enterStandby_kept _)
  · exact hcount _

theorem State.ignitionTick_kept (s : State) : Kept stray s s.ignitionTick := .ite fun _ => s.countIgnitionOff_kept

theorem State.honourStandby_kept (s : State) : Kept stray s s.honourStandby :=
  .ite fun _ => by
    split
    · exact s.enterStandby_kept
    · exact (State.onSupply_quiet rfl).kept

theorem State.raiseAlert_kept (w : Lamps Bool) (s : State) : Kept stray s (s.raiseAlert w) := by
  have hperiod : Quiet stray s (s.endPeriodEarly w) := .ite fun _ => s.sampleLamps_quiet w
  have hlatch : Quiet stray (s.endPeriodEarly w) (s.endPeriodEarly w).latchAlert :=
    ⟨rfl, rfl, rfl, by simp [State.latchAlert], .inr rfl⟩
  exact ((hperiod.trans hlatch).kept.trans (State.wakeIfStandby_kept _)).trans (State.followSign_quiet _).kept

theorem State.sampleAlert_kept (pressed : Bool) (w : Lamps Bool) (s : State) : Kept stray s (s.sampleAlert pressed w) := by
  have htrack : ∀ f, Kept stray s (s.onSign f) := fun f => (s.onSign_quiet f).kept
  unfold State.sampleAlert
  dsimp only
  split
  · exact (htrack _).trans (State.raiseAlert_kept w _)
  · exact htrack _

/-- R96, R175: a supply loss empties the notices, gives up the frame and interrupts a store write. -/
theorem State.loseSupply_kept (s : State) : Kept stray s s.loseSupply := by
  have hlink : s.loseSupply.link.notices = ⟨none, none⟩ := by simp [State.loseSupply_eq, PartitionLink.emptied]
  have hframe : s.loseSupply.dash.frame = .idle := by simp [State.loseSupply_eq, DashLink.lose, DashLink.abandon]
  have hcount : s.loseSupply.dash.counted = 0 := by simp [State.loseSupply_eq, DashLink.lose, DashLink.abandon]
  have hstore : s.loseSupply.store = s.store.interrupt := by simp [State.loseSupply_eq]
  refine ⟨by simp [State.loseSupply_eq], fun _ h => ?_, fun _ _ _ => hlink, fun _ _ => hframe, fun _ _ _ => hcount,
    fun _ _ => ?_⟩
  · rw [hstore]; exact ⟨h.1, nofun⟩
  · rw [hstore]; rfl

/-- R176: after a return the part is ACTIVE, with no frame; an interrupted mirror write begins again. -/
theorem State.resumed_kept (s : State) : Kept stray s s.resumed := by
  have hp : s.resumed.supply.power = .active := by rw [State.resumed_supply]
  have hrise : s.tot.risesTo s.tot.interrupted := by
    simp [Totalizers.interrupted, Totalizers.risesTo, Totalizers.list]
  obtain ⟨-, hframe, -⟩ := s.resumed_frame
  refine ⟨?_, fun ht h => ?_, fun _ _ h => absurd hp h, fun _ _ => hframe, fun _ _ _ => ?_,
    fun _ hh => absurd (hp.symm.trans hh) nofun⟩
  · rw [State.resumed_tot]; exact hrise
  · rw [State.resumed_store]; exact (h.resolved (hrise.inRange ht)).congr rfl
  · rw [State.resumed_dash, DashLink.raise_counted, State.evaluate_dash]
    simp only [State.restored, DashLink.resolved]
    repeat' split
    all_goals rfl

/-- R185: a link reset gives up the frame. -/
theorem State.linkReset_kept (s : State) : Kept stray s s.linkReset := by
  have hdash : Kept stray s (s.onDash DashLink.reset) := .endsFrame rfl rfl
  exact hdash.trans (Quiet.kept ⟨rfl, rfl, rfl, by simp, .inr rfl⟩)

/-- R179, R185: the level of DRST falls with no frame in progress, as after a link reset and in HOLDOVER. -/
theorem State.putDrst_low_kept (h : s.dash.frame = .idle ∨ s.supply.power = .holdover) :
    Kept stray s (s.putDrst true) :=
  .onDash (fun hf _ => h.elim id fun hp => hf (.inr (by rw [hp]; nofun))) (fun _ hc => hc)

theorem State.putDrst_high_kept (s : State) : Kept stray s (s.putDrst false) :=
  .onDash (fun hf hshut => hf (.inr (hshut.resolve_left nofun))) (fun _ hc => hc)

end Sys2Proof.Machine
end

section
/-! PROOFS. Every command but a cold start keeps what O12 and O13 ask, a cold start begins with it, and with that every step
keeps it (O12, O13). -/

namespace Sys2Proof.Machine

/-! ### The second rollover -/

/-- A fare runs outside ACTIVE, which no state whose fares fit its power holds (R173, R175). -/
def Strays (s : State) : Prop := s.supply.power ≠ .active ∧ s.runningCount ≠ 0

theorem FaresFitPower.not_strays {s : State} (h : FaresFitPower s) : ¬ Strays s := by
  rintro ⟨hp, hrun⟩
  refine hrun (State.runningCount_eq_zero.2 fun i t ht hr => ?_)
  obtain ⟨hstandby, hholdover⟩ := h i t ht
  cases hpower : s.supply.power with
  | active => exact hp hpower
  | standby => exact absurd (hstandby hpower) (by rw [hr]; decide)
  | holdover => exact hholdover hpower hr

/-- R30, R37: a fare second posts in ACTIVE, and elsewhere only where a fare runs. -/
theorem secondRollover_kept (s : State) : ∃ t, execSecondRollover s = .next t ∧ Kept (Strays s) s t := by
  have h1 : Quiet (Strays s) s s.tickCalendar := by constructor <;> simp
  have hpost : s.tickCalendar.runningCount ≠ 0 → MayPost (Strays s) s.tickCalendar := fun hr =>
    h1.mayPost.2 ((Classical.em (s.supply.power = .active)).symm.imp_left fun hp => ⟨hp, hr⟩)
  have h2 := (h1.trans (State.fareSecond_quiet hpost)).trans (State.closeSecond_quiet _)
  have h3 := h2.trans (State.inActive_quiet fun hp => State.fareTimers_quiet (.inr hp))
  have h4 := h3.trans (State.inActive_quiet fun _ => State.intercomTick_quiet _)
  have hbreak : ∀ u : State, Quiet (Strays s) u u.breakTick := fun u => ⟨rfl, rfl, rfl, by simp [State.breakTick], .inr rfl⟩
  have h5 := (h4.trans (State.outsideHoldover_quiet (hbreak _))).kept.trans (State.ignitionTick_kept _)
  have h6 := h5.trans (State.outsideHoldover_quiet (State.minuteTick_quiet _)).kept
  exact ⟨_, rfl, h6.trans (State.followSign_quiet _).kept⟩

/-! ### Every command and every step -/

theorem DashLink.endFrame_idle (clocked : Nat) (d : DashLink) :
    (d.endFrame clocked).frame = .idle ∧ (d.endFrame clocked).counted = 0 := by
  unfold DashLink.endFrame
  split <;> exact ⟨rfl, rfl⟩

/-- Every command but a cold start keeps the conditions. -/
theorem exec_kept {c : Instr} (hc : c ≠ .coldStart) (s : State) : ∃ t, exec c s = .next t ∧ Kept (Strays s) s t := by
  cases c with
  | coldStart => exact absurd rfl hc
  | startFare => exact ⟨_, rfl, takeCommand_quiet fun _ => startFareBody_quiet ..⟩
  | pauseFare slot => exact ⟨_, rfl, takeCommand_quiet (pauseFareBody_quiet slot)⟩
  | resumeFare slot => exact ⟨_, rfl, takeCommand_quiet fun _ => resumeFareBody_quiet slot s⟩
  | stopFare slot => exact ⟨_, rfl, takeCommand_quiet (stopFareBody_quiet slot)⟩
  | reopenFare slot => exact ⟨_, rfl, takeCommand_quiet fun _ => reopenFareBody_quiet slot s⟩
  | addExtra => exact ⟨_, rfl, takeCommand_quiet (addExtraBody_quiet _ _ _)⟩
  | cancelExtra => exact ⟨_, rfl, takeCommand_quiet (cancelExtraBody_quiet _ _)⟩
  | readTrip => exact ⟨_, rfl, takeCommand_quiet fun _ => withSlot_quiet fun _ _ => .refl s⟩
  | releaseTrip => exact ⟨_, rfl, takeCommand_quiet fun _ => releaseTripBody_quiet _ _ s⟩
  | recordCash => exact ⟨_, rfl, takeCommand_quiet (recordCashBody_quiet _ _)⟩
  | declareUnpaid => exact ⟨_, rfl, takeCommand_quiet (declareUnpaidBody_quiet _)⟩
  | setClock => exact ⟨_, rfl, takeCommand_quiet fun _ => setClockBody_quiet _ s⟩
  | adjustClock => exact ⟨_, rfl, takeCommand_quiet fun _ => adjustClockBody_quiet _ s⟩
  | shiftOpen => exact ⟨_, rfl, takeCommand_quiet fun _ => shiftOpenBody_quiet _ s⟩
  | stageWrite => exact ⟨_, rfl, takeCommand_quiet fun _ => stageWriteBody_quiet _ _ s⟩
  | commit => exact ⟨_, rfl, takeCommand_kept commitBody_kept fun h => (commitBody_serves s).trans h⟩
  | shiftClose => exact ⟨_, rfl, takeCommand_kept shiftCloseBody_kept fun h => (shiftCloseBody_serves s).trans h⟩
  | holdPlaced x => exact ⟨_, rfl, takeMessage_quiet (holdPlacedBody_quiet x _ _ _)⟩
  | holdReleased x => exact ⟨_, rfl, takeMessage_quiet (holdReleasedBody_quiet x _)⟩
  | payBegin x =>
    exact ⟨_, rfl, takeMessage_quiet fun hm => withFare_quiet hm fun i t => payBeginOn_quiet x i t hm⟩
  | payResult x => exact ⟨_, rfl, takeMessage_quiet (payResultBody_quiet x _ _ _ _ _)⟩
  | payVoid x => exact ⟨_, rfl, takeMessage_quiet (payVoidBody_quiet x _ _)⟩
  | fareQuery x => exact ⟨_, rfl, takeMessage_quiet (State.post_quiet x _)⟩
  | readClock | readTotalizers | readStatus | identify | readEvents | setEventMask =>
    exact ⟨_, rfl, takeCommand_quiet fun _ => ⟨rfl, rfl, rfl, s.tot.risesTo_self, .inr rfl⟩⟩
  | answer | openStation | closeStation | talkPress | talkRelease | loadStage | readItem | enableCommit
  | standby | signSetup | shiftBreak | shiftResume | readShift | releaseShift | watch =>
    refine ⟨_, rfl, takeCommand_quiet fun _ => ?_⟩
    simp only [answerBody, openBody, closeBody, talkPressBody, talkReleaseBody, loadStageBody, readItemBody,
      enableCommitBody, standbyBody, signSetupBody, shiftBreakBody, shiftResumeBody, readShiftBody, releaseShiftBody,
      watchBody]
    repeat' split
    all_goals exact ⟨rfl, rfl, rfl, s.tot.risesTo_self, .inr rfl⟩
  | clearAlert =>
    exact ⟨_, rfl, takeCommand_quiet fun _ => .whenTaken (okSign_quiet ⟨rfl, rfl, rfl, s.tot.risesTo_self, .inr rfl⟩)⟩
  | signDuty | shareAccept =>
    refine ⟨_, rfl, takeCommand_quiet fun _ => ?_⟩
    simp only [signDutyBody, shareAcceptBody]
    split
    · exact .refl s
    · exact okSign_quiet ⟨rfl, rfl, rfl, s.tot.risesTo_self, .inr rfl⟩
  | badCommand code => exact ⟨_, rfl, .ite_not fun _ => s.takeUnlisted_kept code⟩
  | watchModeExit => exact ⟨_, rfl, s.takeUnlisted_kept _⟩
  | dcsFalling =>
    refine ⟨_, rfl, .ite_not fun hopen => ?_⟩
    obtain ⟨⟨hd, hp⟩, -⟩ : (s.dash.drstLow = false ∧ s.supply.power ≠ .holdover) ∧ s.dash.frame = .idle := by
      simpa [State.ignoresFalling] using hopen
    split
    · exact s.wake_kept.trans (State.putFrame_kept _ (by simp [State.wake]) (by rw [State.wake_dash, hd]))
    · rename_i hstandby
      refine State.putFrame_kept _ ?_ hd
      cases hpower : s.supply.power with
      | active => rfl
      | standby => exact absurd hpower hstandby
      | holdover => exact absurd hpower hp
  | dcsRising clocked =>
    obtain ⟨hframe, hcount⟩ := s.dash.endFrame_idle clocked
    exact ⟨_, rfl, (Kept.endsFrame hframe hcount).trans (State.honourStandby_kept _)⟩
  | linkReset =>
    refine ⟨_, rfl, ?_⟩
    split
    · exact State.putDrst_low_kept (.inr ‹_›)
    · exact s.linkReset_kept.trans (State.putDrst_low_kept (.inl rfl))
  | drstRising => exact ⟨_, rfl, s.putDrst_high_kept⟩
  | batteryDomainLoss => exact ⟨_, rfl, (State.onSupply_quiet rfl).kept⟩
  | selectorWrite => exact ⟨_, rfl, .ite fun _ => Quiet.kept ⟨rfl, rfl, rfl, s.tot.risesTo_self, .inr rfl⟩⟩
  | connectionExpiry | talkExpiry | callChimeEnd | fareChimeEnd => exact ⟨_, rfl, .ite fun _ => (s.onIc_quiet _).kept⟩
  | callTimerExpiry x => exact ⟨_, rfl, .ite fun _ => (s.callExpires_quiet x).kept⟩
  | paymentTimerExpiry i =>
    refine ⟨_, rfl, ?_⟩
    split
    · exact .refl s
    · exact .ite fun h => ((State.paymentExpires_quiet i _ (.inr h.1)).trans (State.followSign_quiet _)).kept
  | ignitionOffTimerExpiry => exact ⟨_, rfl, .ite fun _ => s.countIgnitionOff_kept⟩
  | secondRollover => exact secondRollover_kept s
  | partitionWriteDiscarded bytes => exact ⟨_, rfl, .ite fun hp => (State.judgeWrite_quiet bytes (.inr hp)).kept⟩
  | noticeRead part => exact ⟨_, rfl, .ite fun hp => (State.readNotice_quiet part (.inr hp)).kept⟩
  | acceptedEdge => exact ⟨_, rfl, .ite fun _ => (s.edge_quiet _).kept⟩
  | dsensSample high => exact ⟨_, rfl, .ite_not fun _ => (s.sampleSensor_quiet high).kept⟩
  | svcSample high => exact ⟨_, rfl, .ite_not fun _ => (s.svcSample_quiet high).kept⟩
  | buttonSample x pressed => exact ⟨_, rfl, .ite fun _ => (s.sampleButton_quiet x pressed).kept⟩
  | lampPeriodEnd w => exact ⟨_, rfl, .ite fun _ => ((s.sampleLamps_quiet w).trans (State.onSign_quiet _ _)).kept⟩
  | alswSample pressed w => exact ⟨_, rfl, .ite_not fun _ => s.sampleAlert_kept pressed w⟩
  | ignSample high => exact ⟨_, rfl, .ite_not fun _ => s.sampleIgnition_kept high⟩
  | supplyLoss => exact ⟨_, rfl, .ite_not fun _ => s.loseSupply_kept⟩
  | supplyReturn => exact ⟨_, rfl, .ite fun _ => s.resumed_kept⟩
  | commitWriteSuccess =>
    refine ⟨_, rfl, ?_⟩
    split
    · rename_i hw; exact State.commitSucceeds_kept hw
    · exact .refl s
  | commitWriteFailure => exact ⟨_, rfl, .ite fun _ => s.commitFails_kept⟩
  | mirrorWriteSuccess =>
    refine ⟨_, rfl, ?_⟩
    split
    · rename_i hw; exact State.mirrorSucceeds_kept hw
    · exact .refl s
  | mirrorWriteFailure => exact ⟨_, rfl, .ite mirrorFailure_kept⟩

/-- The conditions of O12 and O13, as every step keeps them: the totalizers may fall at a cold start alone. -/
structure StepKept (s t : State) : Prop where
  totals : TotalsInRange s → TotalsInRange t
  notices : ¬ Strays s → NoticesOnlyActive s → NoticesOnlyActive t
  frames : FramesOnlyActive s → FramesOnlyActive t
  counted : FramesOnlyActive s → CountStartsAtZero s → CountStartsAtZero t
  idle : StoreIdleUnpowered s → StoreIdleUnpowered t

theorem Kept.stepKept {s t : State} (h : Kept (Strays s) s t) : StepKept s t where
  totals hs := by
    obtain ⟨ht, hstore⟩ := totalsInRange_iff.1 hs
    exact totalsInRange_iff.2 ⟨h.tot.inRange ht, h.store ht hstore⟩
  notices := h.notices
  frames := h.frames
  counted := h.counted
  idle := h.idle

/-- R168, R177: a cold start begins ACTIVE with no notice and no frame, and with the mirror's totalizers. -/
theorem State.coldStart_stepKept (s : State) : StepKept s s.coldStart := by
  have hframe : s.coldStart.dash.frame = .idle ∧ s.coldStart.dash.counted = 0 := by
    rw [State.coldStart_eq]
    simp only [DashLink.raise_frame, DashLink.raise_counted]
    split <;> exact ⟨rfl, rfl⟩
  rw [State.coldStart_eq] at hframe ⊢
  refine ⟨fun h => ?_, fun _ _ _ => rfl, fun _ _ => hframe.1, fun _ _ _ => hframe.2, fun _ => nofun⟩
  obtain ⟨-, hstore⟩ := totalsInRange_iff.1 h
  have htot := coldTotals_inRange hstore
  have hcold : s.store.cold.inRange := ⟨hstore.1, nofun⟩
  exact totalsInRange_iff.2 ⟨htot, hcold.beginMirror htot⟩

theorem exec_stepKept (c : Instr) (s : State) : ∃ t, exec c s = .next t ∧ StepKept s t := by
  by_cases hc : c = .coldStart
  · subst hc
    refine ⟨_, rfl, ?_⟩
    split
    · exact s.coldStart_stepKept
    · exact (Kept.refl s).stepKept
  · obtain ⟨t, ht, h⟩ := exec_kept hc s
    exact ⟨t, ht, h.stepKept⟩

/-- Every step keeps the conditions. -/
theorem step_kept {s t : State} (h : step s = .next t) : StepKept s t := by
  unfold step at h
  split at h
  · cases h
    exact (State.inActive_quiet fun _ => s.onIc_quiet _).kept.stepKept
  · rename_i c rest _
    obtain ⟨u, hu, hk⟩ := exec_stepKept c { s with pending := rest }
    rw [hu] at h
    cases h
    exact ⟨hk.totals, hk.notices, hk.frames, hk.counted, hk.idle⟩

/-- Settles O12: every step keeps the counts of the part and of its store in range, and every command but a cold start
makes the totalizers rise. -/
theorem totalizersNeverDecrease : Obligations.TotalizersNeverDecrease := by
  refine ⟨fun s t h hst => (step_kept hst).totals h, fun c s t hc h hex => ?_⟩
  obtain ⟨u, hu, hk⟩ := exec_kept hc s
  rw [hu] at hex
  cases hex
  exact hk.tot.atMost h

/-- Settles O13: every step keeps each of the four; no fare runs outside ACTIVE that could post a notice there. -/
theorem nothingIsUnderWayAsleep : Obligations.NothingIsUnderWayAsleep :=
  ⟨fun _ _ hfit h hst => (step_kept hst).notices hfit.not_strays h, fun _ _ h hst => (step_kept hst).frames h,
    fun _ _ hf h hst => (step_kept hst).counted hf h, fun _ _ h hst => (step_kept hst).idle h⟩

end Sys2Proof.Machine
end

section
/-! PROOFS. The staging image and its items (O36). -/

namespace Sys2Proof.Machine

/-! ### Selectors (R79) -/

/-- An item's place is its index in a list that is in the order of the places. -/
theorem place_of_getElem? {α : Type} {place : α → Nat} {l : List α} (h : l.map place = List.range l.length) {n : Nat}
    {x : α} (hx : l[n]? = some x) : place x = n := by
  have hmap : (l.map place)[n]? = some (place x) := by rw [List.getElem?_map, hx]; rfl
  rw [h, List.getElem?_eq_some_iff] at hmap
  obtain ⟨hn, e⟩ := hmap
  rw [← e, List.getElem_range]

/-- R79: a selector names the item that has it. -/
theorem selector_of_itemOf {n : Nat} {k : Item} (h : itemOf n = some k) : k.selector = n := by
  unfold itemOf at h
  split at h
  · obtain ⟨g, hg, rfl⟩ := Option.map_eq_some_iff.1 h
    have hplace := place_of_getElem? (place := GeneralItem.place) rfl hg
    rw [Item.selector, hplace]; omega
  split at h
  · obtain ⟨f, hf, rfl⟩ := Option.map_eq_some_iff.1 h
    have hplace := place_of_getElem? (place := TariffItem.place) rfl hf
    rw [Item.selector, hplace]; dsimp only; omega
  split at h
  · obtain ⟨f, hf, rfl⟩ := Option.map_eq_some_iff.1 h
    have hplace := place_of_getElem? (place := ExtraItem.place) rfl hf
    rw [Item.selector, hplace]; dsimp only; omega
  split at h
  · obtain ⟨f, hf, rfl⟩ := Option.map_eq_some_iff.1 h
    have hplace := place_of_getElem? (place := WindowItem.place) rfl hf
    rw [Item.selector, hplace]; dsimp only; omega
  · cases h

/-! ### One item written (R85) -/

theorem Tariff.withItem_item (t : Tariff) (v : Nat) (f g : TariffItem) :
    (t.withItem v f).item g = if g = f then v else t.item g := by
  cases f <;> cases g <;> rfl

theorem ExtraKind.withItem_item (e : ExtraKind) (v : Nat) (f g : ExtraItem) :
    (e.withItem v f).item g = if g = f then v else e.item g := by
  cases f <;> cases g <;> rfl

theorem Window.withItem_item (w : Window) (v : Nat) (f g : WindowItem) :
    (w.withItem v f).item g = if g = f then v else w.item g := by
  cases f <;> cases g <;> rfl

/-- Of a row of parts with one item of one part written, an item of a part is the value written or as it was. -/
theorem vector_set_item {α φ : Type} [DecidableEq φ] {n : Nat} {item : α → φ → Nat} {write : α → Nat → φ → α}
    (h : ∀ x v f g, item (write x v f) g = if g = f then v else item x g) (xs : Vector α n) (i j : Fin n) (v : Nat)
    (f g : φ) : item (xs.set i (write xs[i] v f))[j] g = if j = i ∧ g = f then v else item xs[j] g := by
  rw [Fin.getElem_fin, Vector.getElem_set]
  by_cases hij : j = i
  · subst hij; simp [h]
  · have hval : ¬ i.val = j.val := fun e => hij (Fin.ext e.symm)
    simp [hij, hval]

/-- R85: an item written holds the value, and every other item is as it was. -/
theorem Image.withItem_item (img : Image) (v : Nat) (k j : Item) :
    (img.withItem v k).item j = if j = k then v else img.item j := by
  cases k with
  | general f => cases f <;> cases j with
    | general g => cases g <;> rfl
    | tariff | extra | window => rfl
  | tariff i f => cases j with
    | tariff j g =>
      simp only [Item.tariff.injEq]
      exact vector_set_item Tariff.withItem_item img.tariffs i j v f g
    | general g => cases g <;> rfl
    | extra | window => rfl
  | extra i f => cases j with
    | extra j g =>
      simp only [Item.extra.injEq]
      exact vector_set_item ExtraKind.withItem_item img.extras i j v f g
    | general g => cases g <;> rfl
    | tariff | window => rfl
  | window i f => cases j with
    | window j g =>
      simp only [Item.window.injEq]
      exact vector_set_item Window.withItem_item img.windows i j v f g
    | general g => cases g <;> rfl
    | tariff | extra => rfl

/-! ### The commands -/

theorem Store.not_busy {t : Store} (h : t.state = .idle) : t.busy = false := by simp [Store.busy, h]

/-- R84: LOAD STAGE with the store IDLE. -/
theorem loadStageBody_idle {s : State} (h : s.store.state = .idle) :
    loadStageBody s = ok (le2 (if s.store.valid then s.store.version else 0)) (s.onStore Store.loadStage) := by
  simp [loadStageBody, Store.not_busy h]

/-- R85: STAGE WRITE of an item, with the store IDLE and staging loaded. -/
theorem stageWriteBody_item {s : State} {selector : Nat} {k : Item} (value : Nat) (h : s.store.state = .idle)
    (hl : s.store.stagingLoaded = true) (hk : itemOf selector = some k) : stageWriteBody selector value s
      = ok (le2 selector ++ le4 value) (s.onStore fun t => { t with staging := t.staging.withItem value k }) := by
  simp [stageWriteBody, Store.not_busy h, hl, hk]

/-- R87: ENABLE COMMIT under an open switch. -/
theorem enableCommitBody_open {s : State} (h : s.store.switchOpen = true) :
    enableCommitBody s = ok [] (s.onStore fun t => { t with latch := true }) := if_pos h

/-- R87: ENABLE COMMIT under a closed switch. -/
theorem enableCommitBody_closed {s : State} (h : s.store.switchOpen = false) :
    enableCommitBody s = refuse 0 .serviceClosed s := if_neg (by simp [h])

/-- Settles O36: the body of each command where it is accepted, and the closed switch; the store is no input of the sign. -/
theorem stagingTakesItsItems : Obligations.StagingTakesItsItems := by
  intro s hs
  have hsign : SignFollows s := hs.1.2
  refine ⟨fun hi => ?_, fun selector value k hi hl hk => ⟨selector_of_itemOf hk, ?_, ?_⟩, fun ho => ?_, fun hc => ?_⟩
  · exact congrArg Host.Outcome.next (takeCommand_followed hs (loadStageBody_idle hi) hsign)
  · exact Image.withItem_item s.store.staging value.toNat k
  · exact congrArg Host.Outcome.next (takeCommand_followed hs (stageWriteBody_item _ hi hl hk) hsign)
  · exact congrArg Host.Outcome.next (takeCommand_followed hs (enableCommitBody_open ho) hsign)
  · exact congrArg Host.Outcome.next (takeCommand_read hs (enableCommitBody_closed hc))

end Sys2Proof.Machine
end

section
/-! PROOFS. A COMMIT and the completions of the store's writes (O37, O38). -/

namespace Sys2Proof.Machine

/-! ### The mirror's sequence numbers (R90) -/

/-- R90: a copy under the sequence number a write carries is current beside the other copy, which is not current beside it. -/
theorem isCurrent_nextSequence (n : Nat) :
    isCurrent (nextSequence n) n = true ∧ isCurrent n (nextSequence n) = false := by
  unfold nextSequence
  split
  · rename_i h
    rcases h with rfl | rfl <;> decide
  · rename_i h
    obtain ⟨h0, hmax⟩ := not_or.1 h
    simp [isCurrent, countMax] at h0 hmax ⊢
    omega

/-- R90, R93: the copy a write has written is the current one. -/
theorem Mirror.set_current (m : Mirror) (c : CopyName) (totals : Totalizers) :
    (m.set c { totals := totals, sequence := nextSequence (m.get c.other).sequence }).current = some c := by
  cases c with
  | first => exact if_pos (isCurrent_nextSequence m.second.sequence).1
  | second =>
    obtain ⟨hnew, hold⟩ := isCurrent_nextSequence m.first.sequence
    exact (if_neg (by rw [Bool.not_eq_true]; exact hold)).trans (if_pos hnew)

theorem Mirror.set_get (m : Mirror) (c : CopyName) (x : MirrorCopy) : (m.set c x).get c = x := by cases c <;> rfl

/-- R90: the mirror's value is that of its current copy. -/
theorem Mirror.value_current {m : Mirror} {c : CopyName} (h : m.current = some c) : m.value = (m.get c).totals := by
  rw [Mirror.value, h]

/-! ### COMMIT (R88, R91) -/

section

variable {s : State} (hi : s.store.state = .idle) (ho : s.store.switchOpen = true) (hl : s.store.latch = true)
  (hs : s.store.stagingLoaded = true) (hf : ∀ i, s.slot i = none)

include hi ho hl hs hf

/-- R88: a COMMIT that passes every check but that of the image. -/
theorem commitBody_badImage {k : Item} (hk : s.store.staging.firstBad = some k) : commitBody s = refuseImage k s := by
  simp [commitBody, Store.not_busy hi, ho, hl, hs, State.anyOccupied_eq_false.2 hf, hk]

/-- R91: a COMMIT that passes every check begins the commit write. -/
theorem commitBody_begins (hk : s.store.staging.firstBad = none) : commitBody s =
    ok (le2 (nextVersion s.store.version)) (s.onStore (·.beginCommit s.tot)) := by
  simp [commitBody, Store.not_busy hi, ho, hl, hs, State.anyOccupied_eq_false.2 hf, hk]

end

/-! ### The completions (R93 to R95) -/

/-- R93: the completion of a commit write in success. -/
theorem exec_commitWriteSuccess {s : State} {w : StoreWrite} (h : s.store.state = .commitWrite)
    (hw : s.store.write = some w) : exec .commitWriteSuccess s = .next (s.commitSucceeds w) := by
  show execCommitWriteSuccess s = _
  simp only [execCommitWriteSuccess, h, hw]

/-- R93: the part as the evaluation of a successful commit finds it. -/
theorem State.commitSucceeds_eq {s : State} {w : StoreWrite} {img : Image} (hi : w.image = some img) :
    s.commitSucceeds w = State.evaluate
      { s with
        store := s.store.commitDone { w with image := some img }
        tot := committedTotals s.tot
        dash := s.dash.raise .commitDone
        dist := s.dist.take img } := by
  obtain ⟨image, totals, copy, sequence⟩ := w
  cases hi
  rfl

/-- R94: the completion of a commit write in verify failure. -/
theorem exec_commitWriteFailure {s : State} (h : s.store.state = .commitWrite) :
    exec .commitWriteFailure s = .next s.commitFails := congrArg Host.Outcome.next (if_pos h)

/-- R95: the completion of a mirror write in success. -/
theorem exec_mirrorWriteSuccess {s : State} {w : StoreWrite} (h : s.store.state = .mirrorWrite)
    (hw : s.store.write = some w) : exec .mirrorWriteSuccess s = .next (s.mirrorSucceeds w) := by
  show execMirrorWriteSuccess s = _
  simp only [execMirrorWriteSuccess, h, hw]

/-- R95: the completion of a mirror write in verify failure. -/
theorem exec_mirrorWriteFailure {s : State} (h : s.store.state = .mirrorWrite) :
    exec .mirrorWriteFailure s = .next (s.onStore (·.beginMirror s.tot)) := congrArg Host.Outcome.next (if_pos h)

/-- R160: no shift is closed where none is CLOSING. -/
theorem State.closeShift_none {s : State} (h : ∀ sh, s.shift = some sh → sh.state ≠ .closing) : s.closeShift = s := by
  unfold State.closeShift
  split
  · rfl
  · rename_i sh hs
    exact if_neg (h sh hs)

/-- R160: a CLOSING shift's record becomes the previous one. -/
theorem State.closeShift_closing {s : State} {sh : Shift} (hs : s.shift = some sh) (hc : sh.state = .closing) :
    s.closeShift = State.followSign
      { s with prev := some { sh with closeStamp := some s.cal.time }, shift := none, dash := s.dash.raise .shiftClosed } := by
  simp only [State.closeShift, hs, hc, if_true]
  rfl

/-- Settles O37: a checked COMMIT by its first bad item; the two completions; and the copy written, which is current. -/
theorem commitBeginsAndCompletes : Obligations.CommitBeginsAndCompletes := by
  refine ⟨fun s hserve hi ho hl hs hf => ?_, fun s w img h hw himg => ⟨?_, ?_⟩, fun m c totals => ?_⟩
  · have hsign : SignFollows s := hserve.1.2
    refine ⟨fun k hk => ?_, fun hk => ?_⟩ <;> refine congrArg Host.Outcome.next ?_
    · exact takeCommand_read hserve (commitBody_badImage hi ho hl hs hf hk)
    · exact takeCommand_followed hserve (commitBody_begins hi ho hl hs hf hk) hsign
  · rw [exec_commitWriteSuccess h hw, State.commitSucceeds_eq himg]
    rfl
  · exact exec_commitWriteFailure h
  · have hcurrent := m.set_current c totals
    exact ⟨hcurrent, by rw [Mirror.value_current hcurrent, Mirror.set_get]⟩

/-- Settles O38: the completion in success, with no CLOSING shift and with one, and the new start after a failure. -/
theorem mirrorWriteCompletes : Obligations.MirrorWriteCompletes := by
  intro s w done h hw hdone
  have hstore : s.onStore (fun t => (t.completeMirror w).endWrite) = { s with store := done } := by rw [hdone]; rfl
  refine ⟨fun hc => ?_, fun sh hs hc => ?_, ?_⟩
  · rw [exec_mirrorWriteSuccess h hw, State.mirrorSucceeds, hstore]
    exact congrArg Host.Outcome.next (State.closeShift_none hc)
  · rw [exec_mirrorWriteSuccess h hw, State.mirrorSucceeds, hstore]
    exact congrArg Host.Outcome.next (State.closeShift_closing hs hc)
  · rw [exec_mirrorWriteFailure h, State.onStore, Store.beginMirror, ← h]
    rfl

end Sys2Proof.Machine
end

section
/-! PROOFS. The money of the shift records: what a settlement and a void make of the totals (O29), and that every step keeps
both records balanced by parts and by method (O11). -/

namespace Sys2Proof.Machine

/-! ### Settlements and voids on one record (R113) -/

/-- R113: room for a settlement is room in each of the four totals. -/
theorem Shift.hasRoom_iff {m : Method} {t : Trip} {sh : Shift} :
    sh.hasRoom m t = true ↔ sh.flagFallTotal + t.flagFall ≤ 4294967295 ∧ sh.stepTotal + t.stepTotal ≤ 4294967295
      ∧ sh.extrasTotal + t.extrasTotal ≤ 4294967295 ∧ sh.methodTotal m + t.totalDue ≤ 4294967295 := by
  simp only [Shift.hasRoom, Bool.and_eq_true, decide_eq_true_eq, and_assoc]
  rfl

/-- R113: a record covers a void when each of the four totals holds its amount. -/
theorem Shift.covers_iff {t : Trip} {sh : Shift} :
    sh.covers t = true ↔ t.flagFall ≤ sh.flagFallTotal ∧ t.stepTotal ≤ sh.stepTotal
      ∧ t.extrasTotal ≤ sh.extrasTotal ∧ t.totalDue ≤ sh.cardFares := by
  simp [Shift.covers, and_assoc]

/-- R113: with room, a settlement raises the four totals, and the tips. -/
theorem Shift.creditMoney_room {m : Method} {t : Trip} {tip : Nat} {sh : Shift} (h : sh.hasRoom m t = true) :
    sh.creditMoney m t tip = { sh.raiseMoney m t with tips := satAdd (sh.raiseMoney m t).tips tip } := by
  rw [Shift.creditMoney, if_pos h]

/-- R113: without room, a settlement raises the tips alone. -/
theorem Shift.creditMoney_noRoom {m : Method} {t : Trip} {tip : Nat} {sh : Shift} (h : ¬sh.hasRoom m t = true) :
    sh.creditMoney m t tip = { sh with tips := satAdd sh.tips tip } := by
  rw [Shift.creditMoney, if_neg h]

/-- R113: a covered void lowers the four totals, and the tips. -/
theorem Shift.debitMoney_covered {t : Trip} {tip : Nat} {sh : Shift} (h : sh.covers t = true) :
    sh.debitMoney t tip = { sh.lowerMoney t with tips := sh.tips - tip } := by
  rw [Shift.debitMoney, if_pos h]
  rfl

/-- R113: a void that is not covered lowers the tips alone. -/
theorem Shift.debitMoney_uncovered {t : Trip} {tip : Nat} {sh : Shift} (h : ¬sh.covers t = true) :
    sh.debitMoney t tip = { sh with tips := sh.tips - tip } := by
  rw [Shift.debitMoney, if_neg h]

/-- R113: of the method totals the settlement's own alone is replaced. -/
theorem Shift.methodTotal_withMethodTotal {m : Method} (hm : m ≠ .unsettled) (m' : Method) (v : Nat) (sh : Shift) :
    (sh.withMethodTotal m v).methodTotal m' = if m' = m then v else sh.methodTotal m' := by
  cases m with
  | unsettled => exact absurd rfl hm
  | card | cash | unpaid => cases m' <;> rfl

/-- R113: the method totals do not read what else a settlement changes of the record. -/
theorem Shift.methodTotal_creditMoney {m : Method} {t : Trip} {sh : Shift} (h : sh.hasRoom m t = true) (m' : Method)
    (tip : Nat) : (sh.creditMoney m t tip).methodTotal m'
      = (sh.withMethodTotal m (sh.methodTotal m + t.totalDue)).methodTotal m' := by
  rw [Shift.creditMoney_room h]
  cases m' <;> rfl

/-- R113: the tips have no part in the four totals. -/
theorem Shift.raiseMoney_tips (m : Method) (t : Trip) (sh : Shift) : (sh.raiseMoney m t).tips = sh.tips := by
  cases m <;> rfl

/-- Settles O29: the two branches of a credit and of a debit, by the room that the four totals have and by what they hold. -/
theorem settlementMoneyRisesTogether : Obligations.SettlementMoneyRisesTogether := by
  refine ⟨fun m t tip sh hm => ?_, fun t tip sh => ⟨fun h => ?_, fun h => ?_⟩⟩
  · refine ⟨?_, fun h => ?_, fun h => ?_⟩
    · by_cases hr : sh.hasRoom m t = true
      · rw [Shift.creditMoney_room hr, Shift.raiseMoney_tips]
        rfl
      · rw [Shift.creditMoney_noRoom hr]
        rfl
    · have hr := Shift.hasRoom_iff.2 h
      have hmethod := fun m' => (Shift.methodTotal_creditMoney hr m' tip).trans (Shift.methodTotal_withMethodTotal hm m' _ sh)
      refine ⟨?_, ?_, ?_, (hmethod m).trans (if_pos rfl), fun m' h' => (hmethod m').trans (if_neg h')⟩
      all_goals rw [Shift.creditMoney_room hr]; rfl
    · have hr : ¬sh.hasRoom m t = true := by rw [Shift.hasRoom_iff]; omega
      exact Shift.creditMoney_noRoom hr
  · exact Shift.debitMoney_covered (Shift.covers_iff.2 h)
  · have hc : ¬sh.covers t = true := by rw [Shift.covers_iff]; omega
    exact Shift.debitMoney_uncovered hc

/-! ### Balanced records (R164) -/

/-- R164: a settlement of a fare whose total due is the sum of its parts keeps the record balanced. -/
theorem Shift.balanced.creditMoney {sh : Shift} (h : sh.balanced) (m : Method) (hm : m ≠ .unsettled) {t : Trip}
    (hd : t.totalDue = t.flagFall + t.stepTotal + t.extrasTotal) (tip : Nat) : (sh.creditMoney m t tip).balanced := by
  by_cases hr : sh.hasRoom m t = true
  · have hraise : (sh.raiseMoney m t).balanced := by
      unfold Shift.balanced at h ⊢
      cases m with
      | unsettled => exact absurd rfl hm
      | card | cash | unpaid => simp only [Shift.raiseMoney, Shift.withMethodTotal, Shift.methodTotal]; omega
    rw [Shift.creditMoney_room hr]
    exact hraise
  · rw [Shift.creditMoney_noRoom hr]
    exact h

/-- R164: the void of a card fare whose total due is the sum of its parts keeps the record balanced. -/
theorem Shift.balanced.debitMoney {sh : Shift} (h : sh.balanced) {t : Trip}
    (hd : t.totalDue = t.flagFall + t.stepTotal + t.extrasTotal) (tip : Nat) : (sh.debitMoney t tip).balanced := by
  by_cases hc : sh.covers t = true
  · have hlower : (sh.lowerMoney t).balanced := by
      have hcov := Shift.covers_iff.1 hc
      simp only [Shift.balanced, Shift.lowerMoney] at h ⊢
      omega
    rw [Shift.debitMoney_covered hc]
    exact hlower
  · rw [Shift.debitMoney_uncovered hc]
    exact h

/-- R110, R116, R117: the counts of settlements have no part in the balance. -/
theorem Shift.balanced.countSettlement {sh : Shift} (h : sh.balanced) (m : Method) : (sh.countSettlement m).balanced := by
  cases m <;> exact h

/-! ### The shift records of a state -/

/-- R164: the two shift records, which the balance reads. -/
def State.shifts (s : State) : Option Shift × Option Shift := (s.shift, s.prev)

section
variable {s t : State}

/-- An event that leaves the shift records leaves them balanced. -/
theorem MoneyBalances.of_shifts (h : MoneyBalances s) (e : t.shifts = s.shifts) : MoneyBalances t := by
  obtain ⟨hshift, hprev⟩ : t.shift = s.shift ∧ t.prev = s.prev := by simpa [State.shifts] using e
  rw [MoneyBalances, hshift, hprev]
  exact h

/-- R164: a credit that keeps the current record balanced. -/
theorem MoneyBalances.credit (h : MoneyBalances s) {f : Shift → Shift} (hf : ∀ sh, sh.balanced → (f sh).balanced) :
    MoneyBalances (s.credit f) := by
  refine ⟨fun sh hsh => ?_, h.2⟩
  obtain ⟨sh', hsh', rfl⟩ := Option.map_eq_some_iff.1 hsh
  exact hf sh' (h.1 sh' hsh')

/-- The balance is kept where both branches of an event keep it. -/
theorem MoneyBalances.ite {c : Prop} [Decidable c] (hs : c → MoneyBalances s) (ht : ¬c → MoneyBalances t) :
    MoneyBalances (if c then s else t) := by
  split
  · rename_i hc; exact hs hc
  · rename_i hc; exact ht hc

/-- A check that refuses leaves the state as it was; the command goes on where it passes. -/
theorem MoneyBalances.unlessRefused (h : MoneyBalances s) {c : Prop} [Decidable c] {length : Nat} {code : ResultCode}
    {x : Reply × State} (hx : MoneyBalances x.2) : MoneyBalances (if c then refuse length code s else x).2 := by
  split
  · exact h
  · exact hx

/-- A command leaves what its body leaves, but for its frame and the sign. -/
theorem MoneyBalances.takeCommand (h : MoneyBalances s) {args : Nat} {body : State → Reply × State}
    (hb : MoneyBalances (body s).2) : MoneyBalances (takeCommand args body s) := by
  rcases takeCommand_cases args body s with ⟨-, e⟩ | ⟨-, e⟩ <;> rw [e]
  · exact h.of_shifts rfl
  · exact hb.of_shifts (by simp [State.shifts])

/-- A message leaves what its body leaves, but for the sign. -/
theorem MoneyBalances.takeMessage (h : MoneyBalances s) {body : State → State} (hb : MoneyBalances (body s)) :
    MoneyBalances (takeMessage body s) := by
  rcases takeMessage_cases body s with ⟨-, e⟩ | ⟨-, e⟩ <;> rw [e]
  · exact h
  · exact hb.of_shifts (by simp [State.shifts])

/-- A command that names a slot keeps the balance as it does on the record of that slot. -/
theorem MoneyBalances.withSlot (h : MoneyBalances s) {length : Nat} {slot : Byte} {f : Fin 4 → Trip → Reply × State}
    (hf : ∀ i t, s.slot i = some t → MoneyBalances (f i t).2) : MoneyBalances (withSlot length slot s f).2 := by
  rcases withSlot_cases length slot s f with ⟨-, e⟩ | ⟨i, -, -, e⟩ | ⟨i, t, -, ht, e⟩ <;> rw [e]
  · exact h
  · exact h
  · exact hf i t ht

theorem MoneyBalances.deny (h : MoneyBalances s) (x : Station) (kind : Byte) (r : Reason) (o : Option Trip) :
    MoneyBalances (s.deny x kind r o) := h.of_shifts (by simp [State.shifts])

/-- A message that names a fare keeps the balance as it does on the record found. -/
theorem MoneyBalances.withFare (h : MoneyBalances s) {x : Station} {kind : Byte} {n : Nat} {f : Fin 4 → Trip → State}
    (hf : ∀ i t, s.slot i = some t → MoneyBalances (f i t)) : MoneyBalances (withFare x kind n s f) := by
  rcases withFare_cases x kind n s f with e | ⟨i, t, -, -, -, e⟩ | ⟨i, t, ht, -, -, e⟩ <;> rw [e]
  · exact h.deny ..
  · exact h.deny ..
  · exact hf i t ht

/-! ### Settlement (chapter 6) -/

/-- R116, R117: a settlement by the driver. -/
theorem MoneyBalances.settleByDriver (h : MoneyBalances s) {v : Trip}
    (hd : v.totalDue = v.flagFall + v.stepTotal + v.extrasTotal) (i : Fin 4) (m : Method) (hm : m ≠ .unsettled)
    (captured tip : Nat) : MoneyBalances (s.settleByDriver i v m captured tip) := by
  have hc := h.credit (f := fun sh => (sh.creditMoney m v tip).countSettlement m)
    fun sh hb => (hb.creditMoney m hm hd tip).countSettlement m
  rw [State.settleByDriver_eq]
  exact hc.of_shifts rfl

/-- R110: a settlement by card. -/
theorem MoneyBalances.settleByCard (h : MoneyBalances s) {v : Trip}
    (hd : v.totalDue = v.flagFall + v.stepTotal + v.extrasTotal) (x : Station) (i : Fin 4) (reference captured tip : Nat) :
    MoneyBalances (s.settleByCard x i v reference captured tip) := by
  have hc := h.credit (f := fun sh => (sh.creditMoney .card v tip).countSettlement .card)
    fun sh hb => (hb.creditMoney .card nofun hd tip).countSettlement .card
  exact hc.of_shifts rfl

/-- R114: a void. -/
theorem MoneyBalances.voidPayment (h : MoneyBalances s) {v : Trip}
    (hd : v.totalDue = v.flagFall + v.stepTotal + v.extrasTotal) (x : Station) (i : Fin 4) :
    MoneyBalances (s.voidPayment x i v) := by
  have hc := h.credit (f := fun sh => { sh.debitMoney v v.paymentOrNew.tip with voids := satAdd sh.voids 1 })
    fun sh hb => hb.debitMoney hd v.paymentOrNew.tip
  exact hc.of_shifts (by simp [State.shifts, State.voidPayment])

theorem recordCashBody_balances (hd : DueIsSum s) (h : MoneyBalances s) (slot : Byte) (tip : Nat) :
    MoneyBalances (recordCashBody slot tip s).2 :=
  h.withSlot fun i v hv => h.unlessRefused <| h.unlessRefused <| h.unlessRefused <|
    (h.settleByDriver (hd i v hv) i .cash nofun _ _).of_shifts rfl

theorem declareUnpaidBody_balances (hd : DueIsSum s) (h : MoneyBalances s) (slot : Byte) :
    MoneyBalances (declareUnpaidBody slot s).2 :=
  h.withSlot fun i v hv => h.unlessRefused <| h.unlessRefused <| h.settleByDriver (hd i v hv) i .unpaid nofun _ _

theorem holdPlacedBody_balances (h : MoneyBalances s) (x : Station) (trip reference amount : Nat) :
    MoneyBalances (holdPlacedBody x trip reference amount s) := by
  refine .ite (fun _ => h.deny ..) fun _ => h.withFare fun i v _ => h.of_shifts ?_
  unfold holdPlacedOn
  repeat' split
  all_goals simp [State.shifts, State.placeHold]

theorem holdReleasedBody_balances (h : MoneyBalances s) (x : Station) (reference : Nat) :
    MoneyBalances (holdReleasedBody x reference s) := by
  refine h.of_shifts ?_
  unfold holdReleasedBody State.releaseHold State.acceptRelease
  repeat' split
  all_goals simp [State.shifts]

theorem payBeginOn_balances (h : MoneyBalances s) (x : Station) (i : Fin 4) (v : Trip) :
    MoneyBalances (payBeginOn x i v s) := by
  refine h.of_shifts ?_
  unfold payBeginOn
  repeat' split
  all_goals simp [State.shifts]

/-- R111: a declined result credits the shift's declines alone. -/
theorem MoneyBalances.payDeclined (h : MoneyBalances s) (x : Station) (i : Fin 4) (v : Trip) :
    MoneyBalances (s.payDeclined x i v) := by
  have hc := h.credit (f := fun sh => { sh with declines := satAdd sh.declines 1 }) fun _ => id
  exact hc.of_shifts (by simp [State.shifts, State.payDeclined])

theorem payResultBody_balances (hd : DueIsSum s) (h : MoneyBalances s) (x : Station) (trip : Nat) (outcome : Byte)
    (captured tip reference : Nat) : MoneyBalances (payResultBody x trip outcome captured tip reference s) := by
  unfold payResultBody
  split
  · exact h.deny ..
  refine .ite (fun _ => h.deny ..) fun _ => h.withFare fun i v hv => ?_
  unfold payResultOn
  split
  · exact h.of_shifts (by split <;> simp [State.shifts])
  refine .ite (fun _ => h.deny ..) fun _ => ?_
  split
  · exact .ite (fun _ => h.deny ..) fun _ => .ite (fun _ => h.deny ..) fun _ => h.settleByCard (hd i v hv) ..
  · exact h.payDeclined ..
  · exact h.of_shifts (by simp [State.shifts, State.payCancelled])

theorem payVoidBody_balances (hd : DueIsSum s) (h : MoneyBalances s) (x : Station) (trip reference : Nat) :
    MoneyBalances (payVoidBody x trip reference s) :=
  .ite (fun _ => h.deny ..) fun _ => h.withFare fun i v hv =>
    .ite (fun _ => h.deny ..) fun _ => .ite (fun _ => h.deny ..) fun _ => .ite (fun _ => h.deny ..) fun _ =>
      .ite (fun _ => h.deny ..) fun _ => h.voidPayment (hd i v hv) x i

/-! ### The fare table, the calendar and the shift unit (chapters 1, 4 and 9) -/

theorem startFareBody_balances (h : MoneyBalances s) (set share selection tariff : Byte) :
    MoneyBalances (startFareBody set share selection tariff s).2 := by
  have hstart : ∀ i v, MoneyBalances (s.startFare i v) := fun i v =>
    (h.credit (f := fun sh => { sh with tripsStarted := satAdd sh.tripsStarted 1, nextTrip := nextNumber v.number })
      fun _ => id).of_shifts rfl
  unfold startFareBody
  split
  · unfold startFareWith
    split
    · exact h
    refine h.unlessRefused <| h.unlessRefused <| h.unlessRefused ?_
    unfold startFareUnder
    refine h.unlessRefused <| h.unlessRefused ?_
    split
    · exact h
    split
    · exact h
    · exact h.unlessRefused <| h.unlessRefused <| hstart ..
  · exact h

/-- R69: an adjustment credits the shift's allowance and its sum alone. -/
theorem adjustClockBody_balances (h : MoneyBalances s) (request : Int) : MoneyBalances (adjustClockBody request s).2 := by
  have hadjust : ∀ applied, MoneyBalances (s.adjustClock applied) := fun applied =>
    (h.credit (f := fun sh => { sh with allowance := sh.allowance - applied.natAbs, adjustmentSum := sh.adjustmentSum + applied })
      fun _ => id).of_shifts (by simp [State.shifts, State.adjustClock])
  unfold adjustClockBody
  split
  · exact h
  · exact h.unlessRefused (h.unlessRefused (h.unlessRefused (hadjust _)))

/-- R155: a shift opens with every total at 0. -/
theorem shiftOpenBody_balances (h : MoneyBalances s) (driver : Nat) : MoneyBalances (shiftOpenBody driver s).2 := by
  have hopen : MoneyBalances (s.openShift driver) := by
    refine ⟨fun sh hsh => ?_, h.2⟩
    cases hsh
    rfl
  exact h.unlessRefused <| h.unlessRefused <| h.unlessRefused <| h.unlessRefused hopen

theorem MoneyBalances.setShiftState (h : MoneyBalances s) (st : ShiftState) : MoneyBalances (s.setShiftState st) :=
  h.credit fun _ => id

theorem shiftBreakBody_balances (h : MoneyBalances s) : MoneyBalances (shiftBreakBody s).2 := by
  unfold shiftBreakBody
  split
  · exact h
  · exact h.unlessRefused <| h.unlessRefused <| h.setShiftState _

theorem shiftResumeBody_balances (h : MoneyBalances s) : MoneyBalances (shiftResumeBody s).2 := by
  unfold shiftResumeBody
  split
  · exact h
  · exact h.unlessRefused <| h.setShiftState _

theorem shiftCloseBody_balances (h : MoneyBalances s) : MoneyBalances (shiftCloseBody s).2 := by
  have hclose : MoneyBalances s.beginClose := (h.setShiftState .closing).of_shifts rfl
  unfold shiftCloseBody
  split
  · exact h
  · exact h.unlessRefused <| h.unlessRefused <| h.unlessRefused <| h.unlessRefused hclose

/-- R163: a previous record released. -/
theorem releaseShiftBody_balances (h : MoneyBalances s) (number : Nat) : MoneyBalances (releaseShiftBody number s).2 := by
  unfold releaseShiftBody
  split
  · exact h
  split
  · exact h
  · exact ⟨h.1, nofun⟩

/-- R160: the record of a closing shift becomes the previous one. -/
theorem MoneyBalances.closeShift (h : MoneyBalances s) : MoneyBalances s.closeShift := by
  unfold State.closeShift
  split
  · exact h
  · rename_i sh hsh
    have hmoved : MoneyBalances ((s.putPrev (some { sh with closeStamp := some s.cal.time })).putShift none) := by
      refine ⟨nofun, fun sh' hsh' => ?_⟩
      cases hsh'
      exact h.1 sh hsh
    exact .ite (fun _ => hmoved.of_shifts (by simp [State.shifts])) fun _ => h

/-! ### Samples and the second rollover -/

theorem MoneyBalances.sampleLamps (h : MoneyBalances s) (w : Lamps Bool) : MoneyBalances (s.sampleLamps w) :=
  (h.credit (f := fun sh => { sh with lampFaults := satAdd sh.lampFaults (newFaults s.sign.lamps (s.sign.sampled w)) })
    fun _ => id).of_shifts (by simp [State.shifts, State.sampleLamps])

theorem MoneyBalances.latchAlert (h : MoneyBalances s) : MoneyBalances s.latchAlert :=
  MoneyBalances.credit (h.of_shifts rfl) fun _ => id

/-- R147: a sample that raises the alert credits the shift's alerts, and its lamp faults. -/
theorem MoneyBalances.sampleAlert (h : MoneyBalances s) (pressed : Bool) (w : Lamps Bool) :
    MoneyBalances (s.sampleAlert pressed w) := by
  have htrack : ∀ f, MoneyBalances (s.onSign f) := fun _ => h.of_shifts rfl
  have hraise : ∀ u, MoneyBalances u → MoneyBalances (u.raiseAlert w) := fun u hu => by
    have hperiod : MoneyBalances (u.endPeriodEarly w) := .ite (fun _ => hu.sampleLamps w) fun _ => hu
    exact hperiod.latchAlert.of_shifts (by simp [State.shifts, State.raiseAlert])
  exact .ite (fun _ => hraise _ (htrack _)) fun _ => htrack _

theorem MoneyBalances.callExpires (h : MoneyBalances s) (x : Station) : MoneyBalances (s.callExpires x) :=
  (h.credit (f := fun sh => { sh with missedCalls := satAdd sh.missedCalls 1 }) fun _ => id).of_shifts rfl

theorem MoneyBalances.callTick (h : MoneyBalances s) (x : Station) : MoneyBalances (s.callTick x) :=
  .ite (fun _ => .ite (fun _ => h.callExpires x) fun _ => h.of_shifts rfl) fun _ => h

theorem MoneyBalances.countMetre (h : MoneyBalances s) : MoneyBalances s.countMetre :=
  MoneyBalances.credit (h.of_shifts rfl) fun _ => id

/-- R50, R51: a counted metre credits the shift's metres alone. -/
theorem MoneyBalances.metre (h : MoneyBalances s) : MoneyBalances s.metre :=
  .ite (fun _ => h.countMetre) fun _ => h.of_shifts rfl

theorem MoneyBalances.edge (h : MoneyBalances s) (k : Nat) : MoneyBalances (s.edge k) :=
  .ite (fun _ => MoneyBalances.metre (h.of_shifts rfl)) fun _ => h.of_shifts rfl

/-- R55: a sensor fault credits the shift's faults and marks its first. -/
theorem MoneyBalances.sensorFault (h : MoneyBalances s) : MoneyBalances s.sensorFault :=
  (h.credit (f := fun sh => { sh with
    sensorFaults := satAdd sh.sensorFaults 1, firstFault := some (sh.firstFault.getD s.cal.time) }) fun _ => id).of_shifts rfl

theorem MoneyBalances.sampleSensor (h : MoneyBalances s) (high : Bool) : MoneyBalances (s.sampleSensor high) := by
  unfold State.sampleSensor
  split
  · exact .ite (fun _ => h.sensorFault) fun _ => h.of_shifts rfl
  · exact h.of_shifts rfl
  · exact .ite (fun _ => h.of_shifts rfl) fun _ => h.of_shifts rfl
  · exact h.of_shifts rfl

theorem MoneyBalances.fareSecond (h : MoneyBalances s) : MoneyBalances s.fareSecond := by
  have hslots : MoneyBalances (forSlots (State.creditSlot s.runningCount) s) :=
    h.of_shifts (by simp [State.shifts, forSlots])
  exact .ite (fun _ => h) fun _ => hslots.credit fun _ => id

theorem MoneyBalances.closeSecond (h : MoneyBalances s) : MoneyBalances s.closeSecond := by
  unfold State.closeSecond
  split
  · exact (h.credit (f := fun sh => { sh with overspeedSeconds := satAdd sh.overspeedSeconds 1 }) fun _ => id).of_shifts rfl
  · exact h.of_shifts rfl

/-- R157: a break second. -/
theorem MoneyBalances.breakTick (h : MoneyBalances s) : MoneyBalances s.breakTick :=
  h.credit fun sh hb => by
    unfold Shift.breakSecond
    split <;> exact hb

theorem MoneyBalances.intercomTick (h : MoneyBalances s) : MoneyBalances s.intercomTick :=
  ((h.callTick .left).callTick .right).of_shifts rfl

theorem MoneyBalances.inActive (h : MoneyBalances s) {f : State → State} (hf : MoneyBalances (f s)) :
    MoneyBalances (s.inActive f) := .ite (fun _ => hf) fun _ => h

theorem MoneyBalances.outsideHoldover (h : MoneyBalances s) {f : State → State} (hf : MoneyBalances (f s)) :
    MoneyBalances (s.outsideHoldover f) := .ite (fun _ => h) fun _ => hf

theorem MoneyBalances.ignitionTick (h : MoneyBalances s) : MoneyBalances s.ignitionTick :=
  h.of_shifts (by simp [State.shifts])

/-- A rollover credits seconds and missed calls, and no money. -/
theorem secondRollover_balances (h : MoneyBalances s) : ∃ t, execSecondRollover s = .next t ∧ MoneyBalances t := by
  have h1 : MoneyBalances s.tickCalendar := h.of_shifts rfl
  have h2 := h1.fareSecond.closeSecond
  have h3 := h2.inActive (f := State.fareTimers) (h2.of_shifts (by simp [State.shifts]))
  have h4 := h3.inActive h3.intercomTick
  have h5 := h4.outsideHoldover h4.breakTick
  have h6 := h5.ignitionTick
  have h7 := h6.outsideHoldover (f := State.minuteTick) (h6.of_shifts (by simp [State.shifts]))
  exact ⟨_, rfl, h7.of_shifts (by simp [State.shifts])⟩

/-! ### Every command and every step -/

@[simp] theorem State.announceStop_shift (i : Fin 4) (s : State) : (s.announceStop i).shift = s.shift := by
  unfold State.announceStop
  split <;> simp

@[simp] theorem State.announceStop_prev (i : Fin 4) (s : State) : (s.announceStop i).prev = s.prev := by
  unfold State.announceStop
  split <;> simp

@[simp] theorem State.repostDue_shift (t : Trip) (s : State) : (s.repostDue t).shift = s.shift := by
  unfold State.repostDue
  split <;> simp

@[simp] theorem State.repostDue_prev (t : Trip) (s : State) : (s.repostDue t).prev = s.prev := by
  unfold State.repostDue
  split <;> simp

theorem State.takeUnlisted_shifts (code : Byte) (s : State) : (s.takeUnlisted code).shifts = s.shifts := by
  unfold State.takeUnlisted takeCommand
  repeat' split
  all_goals simp [State.shifts, badCommandBody]

theorem State.readNotice_shifts (part : ReadPart) (s : State) : (s.readNotice part).shifts = s.shifts := by
  cases part <;> simp [State.readNotice, State.shifts]

theorem MoneyBalances.putFrame (h : MoneyBalances s) (f : FrameState) : MoneyBalances (s.putFrame f) := h.of_shifts rfl

/-- R164: where every total due is the sum of its parts, each command keeps both shift records balanced. -/
theorem exec_balances (c : Instr) (hd : DueIsSum s) (h : MoneyBalances s) :
    ∃ t, exec c s = .next t ∧ MoneyBalances t := by
  cases c with
  | startFare => exact ⟨_, rfl, h.takeCommand (startFareBody_balances h ..)⟩
  | recordCash => exact ⟨_, rfl, h.takeCommand (recordCashBody_balances hd h ..)⟩
  | declareUnpaid => exact ⟨_, rfl, h.takeCommand (declareUnpaidBody_balances hd h _)⟩
  | adjustClock => exact ⟨_, rfl, h.takeCommand (adjustClockBody_balances h _)⟩
  | shiftOpen => exact ⟨_, rfl, h.takeCommand (shiftOpenBody_balances h _)⟩
  | releaseShift => exact ⟨_, rfl, h.takeCommand (releaseShiftBody_balances h _)⟩
  | holdPlaced => exact ⟨_, rfl, h.takeMessage (holdPlacedBody_balances h ..)⟩
  | holdReleased => exact ⟨_, rfl, h.takeMessage (holdReleasedBody_balances h ..)⟩
  | payBegin => exact ⟨_, rfl, h.takeMessage (h.withFare fun i v _ => payBeginOn_balances h _ i v)⟩
  | payResult => exact ⟨_, rfl, h.takeMessage (payResultBody_balances hd h ..)⟩
  | payVoid => exact ⟨_, rfl, h.takeMessage (payVoidBody_balances hd h ..)⟩
  | fareQuery => exact ⟨_, rfl, h.takeMessage (h.of_shifts rfl)⟩
  | shiftBreak => exact ⟨_, rfl, h.takeCommand (shiftBreakBody_balances h)⟩
  | shiftResume => exact ⟨_, rfl, h.takeCommand (shiftResumeBody_balances h)⟩
  | shiftClose => exact ⟨_, rfl, h.takeCommand (shiftCloseBody_balances h)⟩
  | mirrorWriteSuccess =>
    refine ⟨_, rfl, ?_⟩
    split
    · exact MoneyBalances.closeShift (h.of_shifts rfl)
    · exact h
  | secondRollover => exact secondRollover_balances h
  | callTimerExpiry x => exact ⟨_, rfl, .ite (fun _ => h.callExpires x) fun _ => h⟩
  | acceptedEdge => exact ⟨_, rfl, .ite (fun _ => h.edge _) fun _ => h⟩
  | dsensSample high => exact ⟨_, rfl, .ite (fun _ => h) fun _ => h.sampleSensor high⟩
  | lampPeriodEnd w => exact ⟨_, rfl, .ite (fun _ => (h.sampleLamps w).of_shifts rfl) fun _ => h⟩
  | alswSample pressed w => exact ⟨_, rfl, .ite (fun _ => h) fun _ => h.sampleAlert pressed w⟩
  | coldStart =>
    have hcold : MoneyBalances s.coldStart := by
      rw [State.coldStart_eq]
      exact ⟨nofun, nofun⟩
    exact ⟨_, rfl, .ite (fun _ => hcold) fun _ => h⟩
  | pauseFare | resumeFare | reopenFare | readTrip | releaseTrip | stopFare | addExtra | cancelExtra =>
    refine ⟨_, rfl, h.takeCommand (h.withSlot fun i v _ => h.of_shifts ?_)⟩
    repeat' split
    all_goals simp [State.shifts, State.pauseFare, State.stopFare, State.addExtra, State.releaseTrip]
  | setClock | signDuty | shareAccept | clearAlert =>
    refine ⟨_, rfl, h.takeCommand (h.of_shifts ?_)⟩
    simp only [setClockBody, signDutyBody, shareAcceptBody, clearAlertBody]
    repeat' split
    all_goals simp [State.shifts, okSign, State.setClock]
  | readClock | readTotalizers | readStatus | identify | readEvents | setEventMask =>
    exact ⟨_, rfl, h.takeCommand (h.of_shifts rfl)⟩
  | commit | answer | openStation | closeStation | talkPress | talkRelease | loadStage | stageWrite | readItem
  | enableCommit | standby | signSetup | readShift | watch =>
    refine ⟨_, rfl, h.takeCommand (h.of_shifts ?_)⟩
    simp only [commitBody, answerBody, openBody, closeBody, talkPressBody, talkReleaseBody, loadStageBody,
      stageWriteBody, readItemBody, enableCommitBody, standbyBody, signSetupBody, readShiftBody, watchBody]
    repeat' split
    all_goals rfl
  | badCommand code => exact ⟨_, rfl, .ite (fun _ => h) fun _ => h.of_shifts (s.takeUnlisted_shifts code)⟩
  | watchModeExit => exact ⟨_, rfl, h.of_shifts (s.takeUnlisted_shifts _)⟩
  | drstRising | batteryDomainLoss => exact ⟨_, rfl, h.of_shifts rfl⟩
  | dcsRising => exact ⟨_, rfl, h.of_shifts (by simp [State.shifts])⟩
  | dcsFalling =>
    have hwake : MoneyBalances s.wake := h.of_shifts (by simp [State.shifts])
    exact ⟨_, rfl, .ite (fun _ => h) fun _ => .ite (fun _ => hwake.putFrame _) fun _ => h.putFrame _⟩
  | supplyReturn =>
    have hreturn : s.returnStores.returnBlocks.returnPower.shifts = s.shifts := by
      simp [State.shifts, State.returnStores, State.returnBlocks, State.returnPower]
    exact ⟨_, rfl, .ite (fun _ => h.of_shifts hreturn) fun _ => h⟩
  | noticeRead part => exact ⟨_, rfl, .ite (fun _ => h.of_shifts (s.readNotice_shifts part)) fun _ => h⟩
  | selectorWrite | connectionExpiry | talkExpiry | callChimeEnd | fareChimeEnd | linkReset | commitWriteFailure
  | mirrorWriteFailure =>
    refine ⟨_, rfl, h.of_shifts ?_⟩
    split <;> rfl
  | commitWriteSuccess | paymentTimerExpiry | ignitionOffTimerExpiry | supplyLoss | ignSample | svcSample | buttonSample
  | partitionWriteDiscarded =>
    refine ⟨_, rfl, h.of_shifts ?_⟩
    repeat' split
    all_goals simp [State.shifts, State.commitSucceeds, State.loseSupply, State.sampleButton]

end

/-- Settles O11: a settlement and a void move the two sides of the balance together, a shift opens with both at 0, a closing
one keeps them, and every other credit leaves the money. -/
theorem shiftMoneyStaysBalanced : Obligations.ShiftMoneyStaysBalanced := by
  intro s t hd h hst
  unfold step at hst
  split at hst
  · cases hst
    exact h.inActive (h.of_shifts rfl)
  · rename_i c rest _
    obtain ⟨u, hu, hb⟩ := exec_balances (s := { s with pending := rest }) c hd h
    rw [hu] at hst
    cases hst
    exact hb

end Sys2Proof.Machine
end

section
/-! PROOFS. The messages of the card terminal: the hold warning (O27), holds placed and released (O30), PAY BEGIN and PAY VOID
(O31) and FARE QUERY (O33). -/

namespace Sys2Proof.Machine

/-! ### The hold warning (R105) -/

/-- The hold of a record is that of its payment sub-record. -/
theorem Trip.hold_eq {t : Trip} {p : Payment} {h : Hold} (hp : t.payment = some p) (hh : p.hold = some h) :
    t.hold = some h := by
  simp [Trip.hold, hp, hh]

/-- A hold replaced in a record with a payment sub-record. -/
theorem Trip.withHold_eq {t : Trip} {p : Payment} (hp : t.payment = some p) (h : Hold) :
    t.withHold h = { t with payment := some { p with hold := some h } } := by
  simp [Trip.withHold, hp]

/-- R105: a warning is due from a HELD hold that is not warned, at or above its threshold. -/
theorem warningDue_iff {img : Image} {t : Trip} {h : Hold} :
    warningDue img t h = true
      ↔ h.state = .held ∧ h.warned = false ∧ h.amount * img.holdWarning / 100 ≤ t.totalDue := by
  simp only [warningDue, Bool.and_eq_true, Bool.not_eq_true', decide_eq_true_eq, beq_iff_eq, and_assoc]
  rfl

/-- Settles O27: the two branches of the check on the fare's hold. -/
theorem holdIsWarnedOnce : Obligations.HoldIsWarnedOnce := by
  intro s i t p h ht hp hh
  have hold : t.hold = some h := Trip.hold_eq hp hh
  constructor
  · intro hheld hunwarned hreached
    have hdue := warningDue_iff.2 ⟨hheld, hunwarned, hreached⟩
    simp only [State.holdWarning, ht, hold, hdue, if_true, Trip.withHold_eq hp]
  · intro hnot
    have hdue : ¬warningDue s.store.active t h = true := by
      rw [warningDue_iff]
      rintro ⟨hheld, hunwarned, hreached⟩
      rcases hnot with hn | hn | hn
      · exact hn hheld
      · exact Bool.false_ne_true (hunwarned.symm.trans hn)
      · exact Nat.not_lt.2 hreached hn
    simp only [State.holdWarning, ht, hold, hdue, if_false, Bool.false_eq_true]

/-! ### HOLD PLACED (R104) -/

/-- R104: HOLD PLACED with an amount in range on a RUNNING or PAUSED fare without a hold is accepted. -/
theorem holdPlacedBody_accepted {x : Station} {trip reference amount : Nat} {i : Fin 4} {t : Trip} {s : State}
    (hf : s.findTrip trip = some i) (ht : s.slot i = some t) (hx : t.stations.has x = true) (hr : reference ≤ referenceMax)
    (hn : t.hold = none) (hs : t.state = .running ∨ t.state = .paused) (hlow : 100 ≤ amount) (hhigh : amount ≤ 999999) :
    holdPlacedBody x trip reference amount s = s.placeHold x i t reference amount := by
  have hrange : ¬(amount < 100 ∨ 999999 < amount) := by omega
  rw [holdPlacedBody, if_neg (Nat.not_lt.2 hr), withFare_found hf ht hx, holdPlacedOn, hn]
  dsimp only
  rw [if_neg (not_not.2 hs), if_neg hrange]

/-! ### HOLD RELEASED (R106) -/

/-- R106: the hold that awaits its release at a station under a reference. -/
theorem awaitsReference_iff {x : Station} {reference : Nat} {t : Trip} :
    awaitsReference x reference t = true
      ↔ ∃ h, t.hold = some h ∧ h.state = .releasePending ∧ h.station = x ∧ h.reference = reference := by
  unfold awaitsReference
  cases t.hold <;> simp [and_assoc]

/-- R106: with no hold that awaits its release, none is found. -/
theorem State.awaited_none {x : Station} {reference : Nat} {s : State}
    (h : ∀ i t g, s.slot i = some t → t.hold = some g →
      ¬(g.state = .releasePending ∧ g.station = x ∧ g.reference = reference)) :
    lowestTrip (s.trips.filter (awaitsReference x reference)) = none := by
  have e : s.trips.filter (awaitsReference x reference) = [] := by
    rw [List.filter_eq_nil_iff]
    intro t ht hw
    obtain ⟨i, hi⟩ := (State.mem_trips s t).1 ht
    obtain ⟨g, hg, hpending⟩ := awaitsReference_iff.1 hw
    exact h i t g hi hg hpending
  rw [e]
  rfl

/-- R106: the fare found is that of the lowest trip number whose hold awaits its release. -/
theorem State.awaited_lowest {x : Station} {reference : Nat} {s : State} {i : Fin 4} {t : Trip} (hd : TripNumbersDiffer s)
    (ht : s.slot i = some t) (hw : awaitsReference x reference t = true)
    (hl : ∀ j v, s.slot j = some v → awaitsReference x reference v = true → t.number ≤ v.number) :
    lowestTrip (s.trips.filter (awaitsReference x reference)) = some t := by
  have hm : t ∈ s.trips.filter (awaitsReference x reference) := List.mem_filter.2 ⟨(State.mem_trips s t).2 ⟨i, ht⟩, hw⟩
  obtain ⟨u, hu⟩ := lowestTrip_isSome (List.ne_nil_of_mem hm)
  obtain ⟨hmem, hle⟩ := lowestTrip_some hu
  obtain ⟨htrips, huw⟩ := List.mem_filter.1 hmem
  obtain ⟨j, hj⟩ := (State.mem_trips s u).1 htrips
  have hnumber : u.number = t.number := Nat.le_antisymm (hle t hm) (hl j u hj huw)
  have hij : j = i := by
    by_contra hne
    exact hd j i u t hj ht hne hnumber
  rw [hij, ht] at hj
  cases hj
  exact hu

/-- R106: a release that no hold awaits is refused. -/
theorem holdReleasedBody_noHold {x : Station} {reference : Nat} {s : State} (hr : reference ≤ referenceMax)
    (hn : lowestTrip (s.trips.filter (awaitsReference x reference)) = none) :
    holdReleasedBody x reference s = s.deny x kindHoldReleased .noHold none := by
  rw [holdReleasedBody, if_neg (Nat.not_lt.2 hr), hn]

/-- R106: a release that a hold awaits is accepted for its fare. -/
theorem holdReleasedBody_found {x : Station} {reference : Nat} {s : State} {i : Fin 4} {t : Trip}
    (hr : reference ≤ referenceMax) (hw : lowestTrip (s.trips.filter (awaitsReference x reference)) = some t)
    (hf : s.findTrip t.number = some i) : holdReleasedBody x reference s = s.releaseHold x i t := by
  rw [holdReleasedBody, if_neg (Nat.not_lt.2 hr), hw]
  dsimp only
  rw [hf]

/-- R106: the record with its hold RELEASED, and its ACK in place of the hold's own RELEASE_HOLD, or by rank. -/
theorem State.releaseHold_eq {x : Station} {i : Fin 4} {t : Trip} {p : Payment} {h : Hold} {s : State}
    (hp : t.payment = some p) (hh : p.hold = some h) :
    s.releaseHold x i t =
      (if s.link.notices.get x = some (.releaseHold t.number h.reference h.amount) then
        ((s.putSlot i (some { t with payment := some { p with hold := some { h with state := .released } } })).raise
          .hold).onLink (·.put x (.ack 0x12 none t.number t.totalDue))
      else
        ((s.putSlot i (some { t with payment := some { p with hold := some { h with state := .released } } })).raise
          .hold).post x (.ack 0x12 none t.number t.totalDue)) := by
  have hold : t.hold = some h := Trip.hold_eq hp hh
  have hrecord : t.releaseHold = { t with payment := some { p with hold := some { h with state := .released } } } := by
    rw [Trip.releaseHold, hold]
    exact Trip.withHold_eq hp _
  have hnotice : releaseNotice t = .releaseHold t.number h.reference h.amount := by rw [releaseNotice, hold]
  rw [State.releaseHold, State.acceptRelease, hrecord]
  simp only [isReleaseOf, hnotice, beq_iff_eq]
  rfl

/-- R106: an accepted HOLD RELEASED leaves the sign as it follows. -/
theorem SignFollows.releaseHold {s : State} (hs : SignFollows s) {x : Station} {i : Fin 4} {t : Trip} {p : Payment}
    {h : Hold} (ht : s.slot i = some t) (hp : t.payment = some p) (hh : p.hold = some h) :
    SignFollows (s.releaseHold x i t) := by
  have hput : SignFollows (s.putSlot i (some { t with
      payment := some { p with hold := some { h with state := .released } } })) := hs.putSlot ht rfl
  rw [State.releaseHold_eq hp hh]
  split
  · exact hput
  · exact hput

/-- Settles O30: the accepted branch of HOLD PLACED; for HOLD RELEASED, the search among the holds that await one. -/
theorem holdsArePlacedAndReleased : Obligations.HoldsArePlacedAndReleased := by
  constructor
  · rintro x trip reference amount i t u s h hf ht hx hr hn hs hlow hhigh rfl
    have hput : SignFollows (s.putSlot i (some (t.placeHold (newHold x reference.toNat amount.toNat)))) :=
      h.2.putSlot ht rfl
    refine congrArg Host.Outcome.next
      (takeMessage_followed h (holdPlacedBody_accepted hf ht hx hr hn hs hlow hhigh) ?_)
    exact SignFollows.holdWarning (s := ((s.putSlot i (some (t.placeHold (newHold x reference.toNat amount.toNat)))).raise
      .hold).accept x kindHoldPlaced t) hput i
  · intro x reference s h hd h0 hr
    constructor
    · intro hnone
      exact congrArg Host.Outcome.next
        (takeMessage_followed h (holdReleasedBody_noHold hr (State.awaited_none hnone)) h.2)
    · rintro i t p g u ht hp hg hstate hstation href hlowest rfl
      have hold : t.hold = some g := Trip.hold_eq hp hg
      have hw := State.awaited_lowest hd ht (awaitsReference_iff.2 ⟨g, hold, hstate, hstation, href⟩) fun j v hv hvw => by
        obtain ⟨k, hk, h1, h2, h3⟩ := awaitsReference_iff.1 hvw
        exact hlowest j v k hv hk h1 h2 h3
      have hb := holdReleasedBody_found hr hw (State.findTrip_eq hd ht (h0 i t ht))
      exact congrArg Host.Outcome.next
        ((takeMessage_followed h hb (h.2.releaseHold ht hp hg)).trans (State.releaseHold_eq hp hg))

/-! ### PAY BEGIN (R107) -/

section
variable {x : Station} {i : Fin 4} {t : Trip} {s : State}

theorem payBeginOn_wrongState (h : t.state ≠ .stopped) :
    payBeginOn x i t s = s.deny x kindPayBegin .wrongState (some t) := if_pos h

theorem payBeginOn_cardBlocked (h : t.state = .stopped) (hd : t.paymentOrNew.declines = s.store.active.declineLimit) :
    payBeginOn x i t s = s.deny x kindPayBegin .cardBlocked (some t) := by
  rw [payBeginOn, if_neg (not_not.2 h), if_pos hd]

theorem payBeginOn_begins (h : t.state = .stopped) (hd : t.paymentOrNew.declines ≠ s.store.active.declineLimit) :
    payBeginOn x i t s
      = ((s.putSlot i (some (t.beginPayment s.store.active.payTimeout))).raise .fare).accept x kindPayBegin t := by
  rw [payBeginOn, if_neg (not_not.2 h), if_neg hd]

/-! ### PAY VOID (R114) -/

/-- R114: where another slot holds an active fare, some slot does. -/
theorem State.exists_active_of_otherActive (h : s.otherActive i = true) :
    ∃ j v, s.slot j = some v ∧ v.state.isActive = true := by
  obtain ⟨j, -, hj⟩ := List.any_eq_true.1 h
  obtain ⟨-, hactive⟩ := Bool.and_eq_true_iff.1 hj
  cases hv : s.slot j with
  | none => simp [hv, activeSlot] at hactive
  | some v => exact ⟨j, v, hv, by simpa [hv, activeSlot] using hactive⟩

/-- R114: PAY VOID that meets every check on the fare is accepted. -/
theorem payVoidOn_accepted {reference : Nat} {p : Payment} {sh : Shift} (hs : t.state = .settled)
    (hp : t.payment = some p) (hm : p.method = .card) (hsh : s.shift = some sh) (ho : sh.state = .opened)
    (href : p.cardRef = some reference) (hfree : ∀ y, t.stations.has y = true → s.isBound y = false)
    (hshare : ∀ j v, s.slot j = some v → v.state.isActive = true → v.share = true ∧ t.share = true) :
    payVoidOn x reference i t s = s.voidPayment x i t := by
  have hnew : t.paymentOrNew = p := by rw [Trip.paymentOrNew, hp]; rfl
  have hcard : t.isCardSettled = true := by simp [Trip.isCardSettled, hs, hnew, hm]
  have hopen : s.shiftIsOpen = true := by simp [State.shiftIsOpen, hsh, ho]
  have hclash : s.privateClash t.share (s.otherActive i) = false := by
    refine State.privateClash_eq_false.2 ⟨fun j v hv ha => (hshare j v hv ha).1, fun hother => ?_⟩
    obtain ⟨j, v, hv, ha⟩ := State.exists_active_of_otherActive hother
    exact (hshare j v hv ha).2
  have hbound := State.anyBound_eq_false.2 hfree
  simp [payVoidOn, hcard, hopen, hnew, href, hbound, hclash]

/-- R103: PAY VOID that names a fare of its station is taken on its record. -/
theorem payVoidBody_found {trip reference : Nat} (hr : reference ≤ referenceMax) (hf : s.findTrip trip = some i)
    (ht : s.slot i = some t) (hx : t.stations.has x = true) :
    payVoidBody x trip reference s = payVoidOn x reference i t s := by
  rw [payVoidBody, if_neg (Nat.not_lt.2 hr), withFare_found hf ht hx]

/-- R113, R114: the void of a card fare under a shift, block by block. -/
theorem State.voidPayment_eq {p : Payment} {sh : Shift} (hp : t.payment = some p) (hsh : s.shift = some sh) :
    s.voidPayment x i t =
      (((((s.putSlot i (some { t with
          state := .stopped
          payment := some { p with method := .unsettled, attempt := .idle, cardRef := none, captured := 0, tip := 0 } })).putShift
        (some { sh.debitMoney t p.tip with voids := satAdd sh.voids 1 })).raise .fare).post x
        (.ack 0x23 none t.number t.totalDue)).postAll t.stations (.due t.number t.totalDue)) := by
  have hnew : t.paymentOrNew = p := by rw [Trip.paymentOrNew, hp]; rfl
  rw [State.voidPayment, State.credit, State.putSlot_shift, hsh, hnew, Trip.voidPayment, hp]
  rfl

end

/-- Settles O31: the three branches of PAY BEGIN, and the accepted PAY VOID block by block. -/
theorem paymentBeginsAndIsVoided : Obligations.PaymentBeginsAndIsVoided := by
  constructor
  · intro x trip i t s h hf ht hx
    have hb : ∀ u, payBeginOn x i t s = u →
        withFare x kindPayBegin trip.toNat s (fun i t => payBeginOn x i t s) = u := fun u hu =>
      (withFare_found hf ht hx).trans hu
    refine ⟨fun hs => ?_, fun hs hd => ?_, fun hs hd => ?_⟩
    · exact congrArg Host.Outcome.next (takeMessage_followed h (hb _ (payBeginOn_wrongState hs)) h.2)
    · exact congrArg Host.Outcome.next (takeMessage_followed h (hb _ (payBeginOn_cardBlocked hs hd)) h.2)
    · have hput : SignFollows (s.putSlot i (some (t.beginPayment s.store.active.payTimeout))) :=
        h.2.putSlot ht (by simp [Trip.shape, Trip.beginPayment, hs, FareState.isActive])
      exact congrArg Host.Outcome.next (takeMessage_followed h (hb _ (payBeginOn_begins hs hd)) hput)
  · rintro x trip reference i t u p sh s h hf ht hx hr hs hp hm hsh ho href hfree hshare rfl
    refine congrArg Host.Outcome.next ?_
    rw [takeMessage, if_pos h.1, payVoidBody_found hr hf ht hx, payVoidOn_accepted hs hp hm hsh ho href hfree hshare, State.voidPayment_eq hp hsh]

/-! ### FARE QUERY (R115) -/

/-- R21: where each station is bound once, the slot of an active fare over a station is the one it is bound to. -/
theorem State.boundSlot_eq {s : State} {x : Station} {i : Fin 4} {t : Trip} (hb : BoundOnce s) (ht : s.slot i = some t)
    (ha : t.state.isActive = true) (hx : t.stations.has x = true) : s.boundSlot x = some i := by
  have hi : bindsStation x (s.slot i) = true := by simp [ht, bindsStation, ha, hx]
  exact find_slotNumbers hi fun j hj => hb x j i hj hi

/-- R21: a station over which no fare is active is bound to none. -/
theorem State.boundSlot_none {s : State} {x : Station}
    (h : ∀ i t, s.slot i = some t → t.stations.has x = true → t.state.isActive = false) : s.boundSlot x = none := by
  refine List.find?_eq_none.2 fun i _ hi => ?_
  cases ht : s.slot i with
  | none => simp [ht, bindsStation] at hi
  | some t =>
    rw [ht] at hi
    obtain ⟨ha, hx⟩ := bindsStation_some.1 hi
    exact Bool.false_ne_true ((h i t ht hx).symm.trans ha)

/-- R115: a FARE QUERY posts the station's FARE notice and changes nothing else. -/
theorem execFareQuery_eq {x : Station} {s : State} (h : Awake s) :
    exec (.fareQuery x) s = .next { s with link := s.link.post x (s.fareNotice x) } :=
  congrArg Host.Outcome.next (takeMessage_followed (u := s.post x (s.fareNotice x)) h rfl h.2)

/-- R188: a FARE notice is of the lowest rank, below every other kind. -/
theorem Notice.one_lt_rank {n : Notice} (h : ∀ a b c, n ≠ .fare a b c) : 1 < n.rank := by
  cases n with
  | fare a b c => exact absurd rfl (h a b c)
  | topUp | due | ack | releaseHold => simp [Notice.rank]

/-- Settles O33: the fare the station is bound to, and the rank of a FARE notice. -/
theorem fareQueryAnswersTheBoundFare : Obligations.FareQueryAnswersTheBoundFare := by
  intro x s h
  refine ⟨fun i t ht ha hx hb => ?_, fun hn => ?_, fun trip due st => ⟨fun old ho hold => ?_, fun hfare => ?_⟩⟩
  · rw [execFareQuery_eq h, State.fareNotice, State.boundSlot_eq hb ht ha hx]
    dsimp only
    rw [ht]
  · rw [execFareQuery_eq h, State.fareNotice, State.boundSlot_none hn]
  · have hrank : ¬old.rank ≤ (Notice.fare trip st due).rank := Nat.not_le.2 (Notice.one_lt_rank hold)
    simp [PartitionLink.post, ho, givesWay, hrank]
  · have hgives : givesWay (s.link.notices.get x) (.fare trip st due) = true := by
      rcases hfare with e | ⟨a, b, c, e⟩ <;> rw [e] <;> rfl
    rw [PartitionLink.post_notices, if_pos hgives]

end Sys2Proof.Machine
end

section
/-! PROOFS. The expiries, the ends of chimes and the chimes' 50 ms periods (O44). -/

namespace Sys2Proof.Machine

/-! ### The payment timer (R108) -/

/-- R108: the expiry of a SETTLING fare's payment timer returns it to STOPPED and posts its DUE. -/
theorem State.paymentExpires_eq {i : Fin 4} {t : Trip} {p : Payment} {s : State} (hp : t.payment = some p) :
    s.paymentExpires i t = ((s.putSlot i (some { t with
      state := .stopped, payment := some { p with attempt := .timedOut, timer := 0 } })).raise .fare).postAll t.stations
        (.due t.number t.totalDue) := by
  rw [State.paymentExpires, Trip.endPayment, hp]
  rfl

/-- R108: the expiry leaves the sign as it follows. -/
theorem SignFollows.paymentExpires {s : State} (hs : SignFollows s) {i : Fin 4} {t : Trip} (ht : s.slot i = some t)
    (h : t.state = .settling) : SignFollows (s.paymentExpires i t) := by
  have hput : SignFollows ((s.putSlot i (some (t.endPayment .timedOut 0))).raise .fare) :=
    hs.putSlot ht (Trip.endPayment_shape h .timedOut 0)
  exact hput.postAll _ _

theorem execPaymentTimerExpiry_expires {i : Fin 4} {t : Trip} {p : Payment} {s : State} (h : Awake s)
    (ht : s.slot i = some t) (hs : t.state = .settling) (hp : t.payment = some p) (hz : p.timer ≤ 1) :
    exec (.paymentTimerExpiry i) s = .next (s.paymentExpires i t) := by
  have htaken : s.supply.power = .active ∧ t.state = .settling ∧ t.paymentOrNew.timer ≤ 1 :=
    ⟨h.1, hs, by rw [Trip.paymentOrNew, hp]; exact hz⟩
  have e : exec (.paymentTimerExpiry i) s = execPaymentTimerExpiry i s := rfl
  rw [e, execPaymentTimerExpiry, ht]
  dsimp only
  rw [if_pos htaken, State.followSign_of_follows (h.2.paymentExpires ht hs)]

/-! ### The timers of the intercom (R128, R132, R134) -/

section
variable {x : Station} {c : Intercom} {s : State}

/-- R128: a call at its last second ends with its station IDLE and its queued tone dropped; nothing else moves. -/
theorem Intercom.missed_spec (x : Station) (c : Intercom) :
    ((c.leaveCalling x).makeIdle x).line x = { c.line x with state := .idle, callTimer := 0, deferred := false }
      ∧ ((c.leaveCalling x).makeIdle x).path = c.path
      ∧ ((c.leaveCalling x).makeIdle x).line x.other = c.line x.other
      ∧ ((c.leaveCalling x).makeIdle x).tone
          = c.tone.map (fun tone => if tone.queued = some x then { tone with queued := none } else tone) := by
  cases x <;> exact ⟨rfl, rfl, rfl, rfl⟩

/-- R128: a missed call is counted, and CALL MISSED set. -/
theorem execCallTimerExpiry_expires (hp : s.supply.power = .active) (hc : s.ic.isCalling x = true)
    (hz : (s.ic.line x).callTimer ≤ 1) :
    exec (.callTimerExpiry x) s = .next
      { s with
        ic := (s.ic.leaveCalling x).makeIdle x
        shift := s.shift.map (fun sh => { sh with missedCalls := satAdd sh.missedCalls 1 })
        dash := s.dash.raise .callMissed } := by
  have e : exec (.callTimerExpiry x) s = execCallTimerExpiry x s := rfl
  rw [e, execCallTimerExpiry, if_pos ⟨hp, hc, hz⟩]
  rfl

/-- R132: a conversation at its last second is closed. -/
theorem execConnectionExpiry_closes (hp : s.supply.power = .active) (hl : s.ic.path = .linked x)
    (hz : s.ic.connectionTimer ≤ 1) : exec .connectionExpiry s = .next { s with ic := s.ic.close x } := by
  have e : exec .connectionExpiry s = execConnectionExpiry s := rfl
  have hclose : s.ic.connectionTick = s.ic.close x := by simp [Intercom.connectionTick, hl, hz]
  rw [e, execConnectionExpiry, if_pos ⟨hp, hz⟩, State.onIc, hclose]

/-- R134: an announcement at its last second is released. -/
theorem execTalkExpiry_releases {g : StationSet} (hp : s.supply.power = .active) (hl : s.ic.path = .talk g)
    (hz : s.ic.talkTimer ≤ 1) : exec .talkExpiry s = .next { s with ic := s.ic.freePath } := by
  have e : exec .talkExpiry s = execTalkExpiry s := rfl
  have hfree : s.ic.talkTick = s.ic.freePath := by simp [Intercom.talkTick, hl, hz]
  rw [e, execTalkExpiry, if_pos ⟨hp, hz⟩, State.onIc, hfree]

/-- R131: a closed conversation leaves its station IDLE, the other's state, and the path FREE. -/
theorem Intercom.close_spec (x : Station) (c : Intercom) :
    (c.close x).path = .free ∧ (c.close x).connectionTimer = 0 ∧ ((c.close x).line x).state = .idle
      ∧ ((c.close x).line x.other).state = (c.line x.other).state := by
  obtain ⟨hpath, htimer, -, -⟩ := Intercom.freePath_spec (c.makeIdle x)
  refine ⟨hpath, htimer, (Intercom.freePath_line _ x).1.trans ?_, (Intercom.freePath_line _ x.other).1.trans ?_⟩
  · rw [Intercom.makeIdle, Intercom.onLine_line, if_pos rfl]
  · rw [Intercom.makeIdle, Intercom.onLine_line, if_neg (Station.other_ne x)]

/-- R127, R131: the close of a conversation sounds the deferred chimes. -/
theorem Intercom.close_sounds (h : c.isConnected x = true) : DeferredChimesSound c (c.close x) := by
  have hcalling : c.isCalling x = false := by
    simp only [Intercom.isConnected, beq_iff_eq] at h
    simp [Intercom.isCalling, h]
  have hi := Intercom.makeIdle_waits hcalling
  exact (Intercom.freePath_sounds _).congr (fun y => (hi y).1.symm) (fun y => (hi y).2.symm) rfl

end

/-! ### One 50 ms period (R127, R135) -/

/-- R135: a fare chime's period. -/
theorem chimeTick_eq (f : Option FareChime) :
    chimeTick f = f.bind (fun f => if f.left ≤ 1 then none else some { f with left := f.left - 1 }) := by
  cases f <;> rfl

theorem State.chimePeriod_active {s : State} (h : s.supply.power = .active) : s.chimePeriod = s.onIc Intercom.period :=
  if_pos h

section
variable {c : Intercom} {tone : CallTone} {x : Station}

/-- R127: who is CALLING, and the path, are not changed by a period. -/
theorem Intercom.period_isCalling (c : Intercom) (y : Station) : c.period.isCalling y = c.isCalling y := by
  unfold Intercom.isCalling
  rw [c.period_spec.2.2.2 y]

/-- R127: with no tone, none begins. -/
theorem Intercom.period_silent (h : c.tone = none) : c.period.tone = none := by
  rw [Intercom.period_tone, Intercom.tonePeriod, h]
  exact h

/-- R127: a tone with periods left counts one of them. -/
theorem Intercom.period_counts (h : c.tone = some tone) (hl : 1 < tone.left) :
    c.period.tone = some { tone with left := tone.left - 1 } := by
  rw [Intercom.period_tone, Intercom.tonePeriod, h]
  dsimp only
  rw [if_neg (Nat.not_le.2 hl)]

/-- R127: a tone at its last period ends. -/
theorem Intercom.period_ends (h : c.tone = some tone) (hl : tone.left ≤ 1) : c.period.tone = c.endTone.tone := by
  rw [Intercom.period_tone, Intercom.tonePeriod, h]
  dsimp only
  rw [if_pos hl]

/-- R127: with no tone queued that may sound, the end of a tone leaves none. -/
theorem Intercom.endTone_silent (h : c.tone = some tone)
    (hq : ∀ y, tone.queued = some y → c.path ≠ .free ∨ c.isCalling y = false) : c.endTone = { c with tone := none } := by
  unfold Intercom.endTone
  rw [h]
  dsimp only
  split
  · rfl
  · rename_i y hy
    refine if_neg ?_
    rcases hq y hy with hp | hc
    · simp [hp]
    · simp [hc]

/-- R127: at the end of a tone the queued one sounds on a FREE path for a CALLING station. -/
theorem Intercom.endTone_sounds (h : c.tone = some tone) (hq : tone.queued = some x) (hp : c.path = .free)
    (hc : c.isCalling x = true) :
    c.endTone = { c with tone := some { station := x, left := 20, queued := none } } := by
  unfold Intercom.endTone
  rw [h]
  dsimp only
  rw [hq]
  exact if_pos (by simp [hp, hc])

/-! ### Many periods -/

/-- R127: the path and who is CALLING are not changed by any number of periods. -/
theorem Intercom.periods_frame (n : Nat) (c : Intercom) :
    (Intercom.period^[n] c).path = c.path ∧ ∀ y, (Intercom.period^[n] c).isCalling y = c.isCalling y := by
  induction n with
  | zero => exact ⟨rfl, fun _ => rfl⟩
  | succ n ih =>
    obtain ⟨hpath, hcalling⟩ := ih
    rw [Function.iterate_succ_apply']
    exact ⟨(Intercom.period_spec _).1.trans hpath, fun y => (Intercom.period_isCalling _ y).trans (hcalling y)⟩

/-- R135: the fare chime of a station after any number of periods. -/
theorem Intercom.periods_fareChime (n : Nat) (c : Intercom) (y : Station) :
    ((Intercom.period^[n] c).line y).fareChime = chimeTick^[n] (c.line y).fareChime := by
  induction n with
  | zero => rfl
  | succ n ih =>
    rw [Function.iterate_succ_apply', Function.iterate_succ_apply', (Intercom.period_spec _).2.2.2 y, ih]

/-- R127: with no tone, none begins in any number of periods. -/
theorem Intercom.periods_silent (n : Nat) (h : c.tone = none) : (Intercom.period^[n] c).tone = none := by
  induction n with
  | zero => exact h
  | succ n ih =>
    rw [Function.iterate_succ_apply']
    exact Intercom.period_silent ih

/-- R127: the periods a tone has sounded are taken from those it has left. -/
theorem Intercom.periods_count (h : c.tone = some tone) (n : Nat) (hn : n < tone.left) :
    (Intercom.period^[n] c).tone = some { tone with left := tone.left - n } := by
  induction n with
  | zero => exact h
  | succ n ih =>
    rw [Function.iterate_succ_apply', Intercom.period_counts (ih (by omega)) (by dsimp only; omega)]
    rfl

/-- R127: at its last period a tone ends, with what was queued behind it at its start. -/
theorem Intercom.periods_last (h : c.tone = some tone) (hl : 0 < tone.left) :
    ∃ d : Intercom, (Intercom.period^[tone.left] c).tone = d.endTone.tone ∧ d.tone = some { tone with left := 1 }
      ∧ d.path = c.path ∧ ∀ y, d.isCalling y = c.isCalling y := by
  obtain ⟨k, hk⟩ := Nat.exists_eq_add_one.2 hl
  have hone : (Intercom.period^[k] c).tone = some { tone with left := 1 } := by
    rw [Intercom.periods_count h k (by omega), hk, Nat.add_sub_cancel_left]
  refine ⟨Intercom.period^[k] c, ?_, hone, Intercom.periods_frame k c⟩
  rw [hk, Function.iterate_succ_apply']
  exact Intercom.period_ends hone le_rfl

/-- R127: a tone with none queued that may sound is silent from its last period on. -/
theorem Intercom.periods_end_silent (h : c.tone = some tone) (hl : 0 < tone.left)
    (hq : ∀ y, tone.queued = some y → c.path ≠ .free ∨ c.isCalling y = false) (n : Nat) (hn : tone.left ≤ n) :
    (Intercom.period^[n] c).tone = none := by
  obtain ⟨d, hlast, hone, hpath, hcalling⟩ := Intercom.periods_last h hl
  have hsilent : (Intercom.period^[tone.left] c).tone = none := by
    rw [hlast, Intercom.endTone_silent hone fun y hy => by rw [hpath, hcalling]; exact hq y hy]
  rw [← Nat.sub_add_cancel hn, Function.iterate_add_apply]
  exact Intercom.periods_silent _ hsilent

/-- R127: a tone queued on a FREE path for a CALLING station sounds its 20 periods from the last of the one before it. -/
theorem Intercom.periods_end_sounds (h : c.tone = some tone) (hl : 0 < tone.left) (hq : tone.queued = some x)
    (hp : c.path = .free) (hc : c.isCalling x = true) (n : Nat) (hn : tone.left ≤ n) :
    (n < tone.left + 20 → (Intercom.period^[n] c).tone
        = some { station := x, left := tone.left + 20 - n, queued := none })
      ∧ (tone.left + 20 ≤ n → (Intercom.period^[n] c).tone = none) := by
  obtain ⟨d, hlast, hone, hpath, hcalling⟩ := Intercom.periods_last h hl
  have hnext : (Intercom.period^[tone.left] c).tone = some { station := x, left := 20, queued := none } := by
    rw [hlast, Intercom.endTone_sounds hone hq (hpath.trans hp) ((hcalling x).trans hc)]
  rw [← Nat.sub_add_cancel hn, Function.iterate_add_apply, Nat.sub_add_cancel hn]
  refine ⟨fun hlt => ?_, fun hge => ?_⟩
  · rw [Intercom.periods_count hnext (n - tone.left) (by dsimp only; omega)]
    have hleft : 20 - (n - tone.left) = tone.left + 20 - n := by omega
    dsimp only
    rw [hleft]
  · exact Intercom.periods_end_silent hnext (Nat.zero_lt_succ 19) nofun (n - tone.left) (by dsimp only; omega)

end

/-- R127, R135: any number of periods in ACTIVE are the intercom's own. -/
theorem State.chimePeriods_active {s : State} (h : s.supply.power = .active) (n : Nat) :
    State.chimePeriod^[n] s = s.onIc Intercom.period^[n] := by
  induction n with
  | zero => rfl
  | succ n ih =>
    rw [Function.iterate_succ_apply', ih, State.chimePeriod_active (by exact h), Function.iterate_succ']
    rfl

/-! ### Fare chimes (R135) -/

/-- R135: a fare chime requested at a station changes neither who is CONNECTED nor who hears an announcement. -/
theorem Intercom.chime_hears (kind : ChimeKind) (x y : Station) (c : Intercom) :
    (c.chime kind x).isConnected y = c.isConnected y ∧ (c.chime kind x).inTalk y = c.inTalk y := by
  obtain ⟨-, hpath, hline⟩ := Intercom.chime_spec kind x c
  unfold Intercom.isConnected Intercom.inTalk
  rw [hpath, hline]
  split <;> exact ⟨rfl, rfl⟩

/-- R135: a fare chime requested for a set sounds at each of its stations where the driver is not heard. -/
theorem Intercom.chimeAll_spec (kind : ChimeKind) (g : StationSet) (c : Intercom) :
    (c.chimeAll kind g).tone = c.tone ∧ (c.chimeAll kind g).path = c.path
      ∧ ∀ y, (c.chimeAll kind g).line y
          = if g.has y = true ∧ c.isConnected y = false ∧ c.inTalk y = false then
              { c.line y with fareChime := some { kind := kind, left := 40 } }
            else c.line y := by
  obtain ⟨htoneL, hpathL, hlineL⟩ := Intercom.chime_spec kind .left c
  obtain ⟨htoneR, hpathR, hlineR⟩ := Intercom.chime_spec kind .right c
  cases g with
  | empty => exact ⟨rfl, rfl, fun y => by cases y <;> rfl⟩
  | left => exact ⟨htoneL, hpathL, fun y => (hlineL y).trans (by cases y <;> simp [StationSet.has])⟩
  | right => exact ⟨htoneR, hpathR, fun y => (hlineR y).trans (by cases y <;> simp [StationSet.has])⟩
  | both =>
    obtain ⟨htone, hpath, hline⟩ := Intercom.chime_spec kind .right (c.chime kind .left)
    obtain ⟨hconnected, htalk⟩ := Intercom.chime_hears kind .left .right c
    refine ⟨htone.trans htoneL, hpath.trans hpathL, fun y => (hline y).trans ?_⟩
    rw [hconnected, htalk, hlineL]
    cases y <;> simp [StationSet.has]

/-! ### O44 -/

section
variable {x : Station} {s : State}

/-- R127: a call chime is ended. -/
theorem execCallChimeEnd_eq (h : s.supply.power = .active) :
    exec .callChimeEnd s = .next { s with ic := s.ic.endTone } := by
  have e : exec .callChimeEnd s = execCallChimeEnd s := rfl
  rw [e, execCallChimeEnd, if_pos h]
  rfl

/-- R135: a fare chime is ended. -/
theorem execFareChimeEnd_eq (h : s.supply.power = .active) :
    exec (.fareChimeEnd x) s = .next { s with ic := s.ic.onLine x (fun l => { l with fareChime := none }) } := by
  have e : exec (.fareChimeEnd x) s = execFareChimeEnd x s := rfl
  rw [e, execFareChimeEnd, if_pos h]
  rfl

end

/-- Settles O44: each expiry and each end is taken where its timer stands; a chime's periods are counted one by one to its
last, and the one queued behind it from there. -/
theorem timersExpireAndChimesEnd : Obligations.TimersExpireAndChimesEnd := by
  refine ⟨fun s hp => if_neg hp, fun i t p s h ht hs hp hz => ?_, fun x s hp => ⟨fun hc hz => ?_, fun hl hz => ?_,
    fun g hl hz => ?_, fun tone ht => ⟨fun hq => ?_, fun hq hf hc => ?_⟩, execFareChimeEnd_eq hp, ?_, fun n f hf hl => ?_,
    fun n tone ht hl => ⟨fun hn => ?_, fun hq hn => ?_, fun hq hf hc => ?_⟩, fun kind g y => ?_⟩⟩
  · rw [execPaymentTimerExpiry_expires h ht hs hp hz, State.paymentExpires_eq hp]
  · obtain ⟨hline, hpath, hother, htone⟩ := Intercom.missed_spec x s.ic
    exact ⟨_, execCallTimerExpiry_expires hp hc hz, hline, hpath, hother, htone⟩
  · obtain ⟨hpath, htimer, hidle, hother⟩ := s.ic.close_spec x
    exact ⟨_, execConnectionExpiry_closes hp hl hz, hpath, htimer, hidle, hother, Intercom.close_sounds⟩
  · obtain ⟨hpath, -, htimer, -⟩ := s.ic.freePath_spec
    exact ⟨_, execTalkExpiry_releases hp hl hz, hpath, htimer, s.ic.freePath_sounds, fun y => (s.ic.freePath_line y).1⟩
  · rw [execCallChimeEnd_eq hp, Intercom.endTone_silent ht (by simp [hq])]
  · rw [execCallChimeEnd_eq hp, Intercom.endTone_sounds ht hq hf hc]
  · obtain ⟨hpath, hconnection, htalk, hline⟩ := s.ic.period_spec
    refine ⟨_, State.chimePeriod_active hp, hpath, hconnection, htalk, fun y => ?_, Intercom.period_silent, fun tone ht =>
      ⟨Intercom.period_counts ht, fun hz hq => ?_, fun hz hq => ?_⟩⟩
    · rw [hline, chimeTick_eq]
    · rw [Intercom.period_ends ht hz, Intercom.endTone_sounds ht hq.1 hq.2.1 hq.2.2]
    · rw [Intercom.period_ends ht hz, Intercom.endTone_silent ht hq]
  · have hchime : ((State.chimePeriod^[n] s).ic.line x).fareChime
        = if n < f.left then some { f with left := f.left - n } else none := by
      rw [State.chimePeriods_active hp, State.onIc_ic, Intercom.periods_fareChime, hf, chimeTick_iterate f hl]
    exact ⟨fun hn => hchime.trans (if_pos hn), fun hn => hchime.trans (if_neg (Nat.not_lt.2 hn))⟩
  · rw [State.chimePeriods_active hp]
    exact Intercom.periods_count ht n hn
  · rw [State.chimePeriods_active hp]
    exact Intercom.periods_end_silent ht hl (by simp [hq]) n hn
  · rw [State.chimePeriods_active hp]
    exact ⟨fun hn hlt => (Intercom.periods_end_sounds ht hl hq hf hc n hn).1 hlt,
      fun hge => (Intercom.periods_end_sounds ht hl hq hf hc n (by omega)).2 hge⟩
  · obtain ⟨htone, hpath, hline⟩ := s.ic.chimeAll_spec kind g
    exact ⟨hline y, htone, hpath⟩

end Sys2Proof.Machine
end

section
/-! SUPPORT. What the driver's commands and the call buttons make of the intercom, line by line: the cut of the sounding
call chime, ANSWER, OPEN, CLOSE, TALK PRESS and a call. -/

namespace Sys2Proof.Machine

section
variable {x : Station} {c : Intercom}

/-! ### Who is CALLING, and who is CONNECTED (R122) -/

theorem Intercom.isCalling_iff : c.isCalling x = true ↔ (c.line x).state = .calling := by simp [Intercom.isCalling]

theorem Intercom.isConnected_iff : c.isConnected x = true ↔ (c.line x).state = .connected := by
  simp [Intercom.isConnected]

theorem DriverPath.isTalk_false_iff {p : DriverPath} : p.isTalk = false ↔ ∀ g, p ≠ .talk g := by
  cases p <;> simp [DriverPath.isTalk]

/-! ### The cut of the sounding call chime (R127) -/

/-- R127: whether a cut leaves the chime of a station deferred: it was, or its tone was queued and it is CALLING. -/
def Intercom.deferredByCut (c : Intercom) (y : Station) : Bool :=
  (c.line y).deferred || (c.tone.any (fun t => t.queued == some y) && c.isCalling y)

/-- R127: a cut changes of each line whether its chime is deferred, and nothing else. -/
theorem Intercom.cutTone_line (c : Intercom) (y : Station) :
    c.cutTone.line y = { c.line y with deferred := c.deferredByCut y } := by
  unfold Intercom.cutTone Intercom.deferredByCut
  cases ht : c.tone with
  | none => simp
  | some t =>
    cases hq : t.queued with
    | none => simp [hq, Intercom.line]
    | some q =>
      have hline : ({ c with tone := none } : Intercom).line y = c.line y := rfl
      by_cases hc : c.isCalling q = true
      · by_cases e : y = q
        · subst e
          simp [hq, hc, Intercom.onLine_line, hline]
        · simp [hq, hc, Intercom.onLine_line, hline, e, beq_false_of_ne (Ne.symm e)]
      · by_cases e : y = q
        · subst e
          simp [hq, hc, hline]
        · simp [hq, hc, hline, beq_false_of_ne (Ne.symm e)]

/-- R127: a station that is not CALLING is not deferred by a cut. -/
theorem Intercom.deferredByCut_of_not_calling (h : c.isCalling x = false) :
    c.deferredByCut x = (c.line x).deferred := by
  simp [Intercom.deferredByCut, h]

/-- R127: a station none of whose tones is queued is not deferred by a cut. -/
theorem Intercom.deferredByCut_of_not_queued (h : ∀ t, c.tone = some t → t.queued ≠ some x) :
    c.deferredByCut x = (c.line x).deferred := by
  have hnone : c.tone.any (fun t => t.queued == some x) = false := by
    cases ht : c.tone with
    | none => rfl
    | some t => simpa using h t ht
  simp [Intercom.deferredByCut, hnone]

/-- R127: `deferredByCut` is the deferral that `ToneIsCut` asks for. -/
theorem ToneIsCut.of_deferred {d : Intercom} {y : Station} (ht : d.tone = none)
    (hd : (d.line y).deferred = c.deferredByCut y) : ToneIsCut c d y := ⟨ht, hd⟩

/-! ### ANSWER (R129) -/

/-- R127, R129: the cut that an ANSWER on a FREE path makes. -/
theorem Intercom.cutIfFree_spec (c : Intercom) :
    c.cutIfFree.path = c.path ∧ (c.path = .free → c.cutIfFree.tone = none)
      ∧ ∀ y, c.cutIfFree.line y
          = { c.line y with deferred := if c.path = .free then c.deferredByCut y else (c.line y).deferred } := by
  obtain ⟨htone, hpath, -⟩ := c.cutTone_spec
  unfold Intercom.cutIfFree
  by_cases h : c.path = .free
  · simp only [if_pos h]
    exact ⟨hpath, fun _ => htone, c.cutTone_line⟩
  · simp only [if_neg h]
    exact ⟨trivial, fun hf => absurd hf h, fun _ => trivial⟩

/-- R129: the station left behind by an ANSWER becomes IDLE where the path was LINKED to it. -/
theorem Intercom.leaveOther_spec (x : Station) (c : Intercom) :
    (c.leaveOther x).tone = c.tone ∧ (c.leaveOther x).line x = c.line x
      ∧ (c.leaveOther x).line x.other
          = { c.line x.other with state := if c.path = .linked x.other then .idle else (c.line x.other).state } := by
  unfold Intercom.leaveOther
  by_cases h : c.path = .linked x.other
  · simp only [if_pos h, Intercom.makeIdle, Intercom.onLine_line, if_neg (Station.other_ne x).symm]
    exact ⟨rfl, trivial, rfl⟩
  · simp only [if_neg h]
    exact ⟨trivial, trivial, trivial⟩

/-- R127: dropping the call of one station decides nothing of the other's chime at a cut. -/
theorem Intercom.leaveCalling_deferredByCut (x : Station) (c : Intercom) :
    (c.leaveCalling x).deferredByCut x.other = c.deferredByCut x.other := by
  have hline : (c.leaveCalling x).line x.other = c.line x.other :=
    ((Intercom.leaveCalling_spec x c).2.2.2.2 x.other).trans (if_neg (Station.other_ne x))
  have hqueued : (c.leaveCalling x).tone.any (fun t => t.queued == some x.other)
      = c.tone.any (fun t => t.queued == some x.other) := by
    have htone : (c.leaveCalling x).tone
        = c.tone.map (fun t => if t.queued = some x then { t with queued := none } else t) := rfl
    rw [htone]
    cases c.tone with
    | none => rfl
    | some t =>
      by_cases h : t.queued = some x
      · simp [h, beq_false_of_ne (Station.other_ne x).symm]
      · simp [h]
  rw [Intercom.deferredByCut, Intercom.deferredByCut, hqueued, Intercom.isCalling, Intercom.isCalling, hline]

/-- R127, R129: an ANSWER links the path to its station, whose call is over and whose fare chime is cut off; the other
station is left behind, and the sounding call chime is cut off where the path was FREE. -/
theorem Intercom.answer_spec (x : Station) (c : Intercom) :
    (c.answer x).path = .linked x ∧ (c.answer x).connectionTimer = 180
      ∧ (c.path = .free → (c.answer x).tone = none)
      ∧ (c.answer x).line x
          = { c.line x with state := .connected, callTimer := 0, deferred := false, fareChime := none }
      ∧ (c.answer x).line x.other
          = { c.line x.other with
              state := if c.path = .linked x.other then .idle else (c.line x.other).state
              deferred := if c.path = .free then c.deferredByCut x.other else (c.line x.other).deferred } := by
  obtain ⟨hpath1, -, -, hqueue, hline1⟩ := Intercom.leaveCalling_spec x c
  obtain ⟨hpath2, htone2, hline2⟩ := (c.leaveCalling x).cutIfFree_spec
  obtain ⟨htone3, hself3, hother3⟩ := Intercom.leaveOther_spec x (c.leaveCalling x).cutIfFree
  obtain ⟨hpath4, htimer4, htone4, hline4⟩ := Intercom.connect_spec x ((c.leaveCalling x).cutIfFree.leaveOther x)
  refine ⟨hpath4, htimer4, fun h => ?_, ?_, ?_⟩
  · exact htone4.trans (htone3.trans (htone2 (hpath1.trans h)))
  · have hcut := Intercom.deferredByCut_of_not_queued hqueue
    simp only [Intercom.answer, hline4, hself3, hline2, hcut, hline1, if_true, ite_self]
  · simp only [Intercom.answer, hline4, hother3, hline2, hpath2, hpath1, hline1, Intercom.leaveCalling_deferredByCut,
      if_neg (Station.other_ne x)]

/-! ### OPEN, CLOSE and TALK PRESS (R130, R131, R133) -/

/-- R130: an OPEN in the station's own conversation sets its timer back. -/
theorem Intercom.openTo_connected (h : c.isConnected x = true) : c.openTo x = { c with connectionTimer := 180 } :=
  if_pos h

/-- R127, R130: an OPEN of a station that is not in conversation cuts the sounding call chime and connects it. -/
theorem Intercom.openTo_spec (h : c.isConnected x = false) :
    (c.openTo x).path = .linked x ∧ (c.openTo x).connectionTimer = 180 ∧ (c.openTo x).tone = none
      ∧ (c.openTo x).line x
          = { c.line x with state := .connected, deferred := c.deferredByCut x, fareChime := none }
      ∧ (c.openTo x).line x.other = { c.line x.other with deferred := c.deferredByCut x.other } := by
  have e : c.openTo x = c.cutTone.connect x := if_neg (by simp [h])
  obtain ⟨hpath, htimer, htone, hline⟩ := Intercom.connect_spec x c.cutTone
  rw [e]
  refine ⟨hpath, htimer, htone.trans c.cutTone_spec.1, ?_, ?_⟩
  · rw [hline, if_pos rfl, Intercom.cutTone_line]
  · rw [hline, if_neg (Station.other_ne x), Intercom.cutTone_line]

/-- R131: the line of the station whose conversation is closed. -/
theorem Intercom.close_line (x : Station) (c : Intercom) : (c.close x).line x = { c.line x with state := .idle } := by
  rw [Intercom.close, (Intercom.freePath_spec _).2.2.2 x, Intercom.makeIdle, Intercom.onLine_line, if_pos rfl]
  exact if_neg (by simp)

/-- R127, R133: an announcement cuts the sounding call chime off, and the fare chimes of its stations. -/
theorem Intercom.talk_spec (g : StationSet) (c : Intercom) :
    (c.talk g).path = .talk g ∧ (c.talk g).talkTimer = 30 ∧ (c.talk g).tone = none
      ∧ ∀ y, (c.talk g).line y
          = { c.line y with
              deferred := c.deferredByCut y, fareChime := if g.has y then none else (c.line y).fareChime } := by
  have htone : (c.cutTone.silenceAll g).tone = c.cutTone.tone := by cases g <;> rfl
  refine ⟨rfl, rfl, htone.trans c.cutTone_spec.1, fun y => ?_⟩
  have hline : (c.talk g).line y = (c.cutTone.silenceAll g).line y := rfl
  rw [hline, Intercom.silenceAll_line, Intercom.cutTone_line]
  split <;> rfl

/-! ### A call (R126, R127) -/

/-- R126, R127: a call makes its station CALLING, with its chime deferred where the path is not FREE. -/
theorem Intercom.call_spec (x : Station) (c : Intercom) :
    (c.call x).path = c.path
      ∧ ∀ y, (c.call x).line y
          = if y = x then { c.line x with
              state := .calling, callTimer := 30, deferred := (c.line x).deferred || c.path != .free }
            else c.line y := by
  have hsound : ∀ (d : Intercom) (y : Station), (d.sound x).line y = d.line y := fun d y => by
    simp only [Intercom.line, Intercom.sound_frame]
  unfold Intercom.call
  by_cases h : c.path = .free
  · rw [if_pos h]
    refine ⟨(Intercom.sound_frame x _).2.1, fun y => ?_⟩
    rw [hsound, Intercom.onLine_line]
    split
    · rename_i e; subst e; simp [h, callLength]
    · rfl
  · rw [if_neg h]
    refine ⟨rfl, fun y => ?_⟩
    rw [Intercom.onLine_line]
    split
    · rename_i e; subst e; simp [h, callLength]
    · rfl

/-- R127: on a FREE path a call sounds its chime at once, or queues it behind the other station's. -/
theorem Intercom.call_tone_free (h : c.path = .free) :
    (c.tone = none → (c.call x).tone = some { station := x, left := 20, queued := none })
      ∧ ∀ t, c.tone = some t → t.station = x.other → (c.call x).tone = some { t with queued := some x } := by
  have e : c.call x = (c.onLine x (fun l => { l with state := .calling, callTimer := callLength })).sound x := if_pos h
  rw [e]
  have htone : ∀ f, (c.onLine x f).tone = c.tone := fun _ => rfl
  refine ⟨fun ht => ?_, fun t ht hx => ?_⟩
  · simp [Intercom.sound, htone, ht, callChimeLength]
  · simp [Intercom.sound, htone, ht, hx, Station.other_ne x]

/-- R127: on a path that is not FREE a call sounds nothing. -/
theorem Intercom.call_tone_busy (h : c.path ≠ .free) : (c.call x).tone = c.tone := by
  rw [Intercom.call, if_neg h]
  rfl

end

end Sys2Proof.Machine
end

section
/-! PROOFS. The driver's commands (O42), the samples of the call buttons (O43), the link reset (O53) and the front of
the queue (O1). -/

namespace Sys2Proof.Machine

/-! ### The driver's commands (R129 to R133) -/

section
variable {b : Byte} {x : Station} {s : State}

/-- R141: an accepted command of the driver answers with the intercom field after it; the sign follows as it did. -/
theorem takeCommand_intercom {args : Nat} {body : State → Reply × State} {f : Intercom → Intercom} (h : Serving s)
    (hb : body s = okIntercom f s) :
    takeCommand args body s = State.reply args .ok (intercomField (f s.ic)) { s with ic := f s.ic } :=
  takeCommand_followed h hb h.1.2

theorem answerBody_accepted (hx : stationArg b = some x) (hc : s.ic.isCalling x = true)
    (ht : ∀ g, s.ic.path ≠ .talk g) : answerBody b s = okIntercom (·.answer x) s := by
  simp [answerBody, hx, hc, DriverPath.isTalk_false_iff.2 ht]

theorem openBody_accepted (hx : stationArg b = some x) (hb : s.isBound x = true) (hp : (s.ic.line x).privacy = false)
    (hc : s.ic.isCalling x = false) (hf : s.ic.isConnected x = true ∨ s.ic.path = .free) :
    openBody b s = okIntercom (·.openTo x) s := by
  rcases hf with hf | hf <;> simp [openBody, hx, hb, hp, hc, hf]

theorem closeBody_accepted (hx : stationArg b = some x) (hc : s.ic.isConnected x = true) :
    closeBody b s = okIntercom (·.close x) s := by
  simp [closeBody, hx, hc]

theorem talkPressBody_accepted {g : StationSet} (hg : talkSetArg b = some g) (hp : s.ic.path = .free) :
    talkPressBody b s = okIntercom (·.talk g) s := by
  simp [talkPressBody, hg, hp]

theorem talkReleaseBody_accepted {g : StationSet} (hp : s.ic.path = .talk g) :
    talkReleaseBody s = okIntercom Intercom.freePath s := by
  simp [talkReleaseBody, hp, DriverPath.isTalk]

end

section
variable {x : Station} {c : Intercom}

/-- R127, R129: what ANSWER makes of the path, the stations and the call chimes. -/
theorem Intercom.answer_moves (x : Station) (c : Intercom) :
    (c.answer x).path = .linked x ∧ (c.answer x).connectionTimer = 180
      ∧ (c.answer x).line x
          = { c.line x with state := .connected, callTimer := 0, deferred := false, fareChime := none }
      ∧ ((c.answer x).line x.other).privacy = (c.line x.other).privacy
      ∧ ((c.answer x).line x.other).state = (if c.path = .linked x.other then .idle else (c.line x.other).state)
      ∧ (c.path = .free → ToneIsCut c (c.answer x) x.other)
      ∧ (c.path ≠ .free → ((c.answer x).line x.other).deferred = (c.line x.other).deferred) := by
  obtain ⟨hpath, htimer, htone, hself, hother⟩ := c.answer_spec x
  refine ⟨hpath, htimer, hself, ?_, ?_, fun h => .of_deferred (htone h) ?_, fun h => ?_⟩
  · rw [hother]
  · rw [hother]
  · rw [hother, if_pos h]
  · rw [hother, if_neg h]

/-- R127, R130: what OPEN makes of an IDLE station, the path and the call chimes. -/
theorem Intercom.openTo_moves (h : (c.line x).state = .idle) :
    (c.openTo x).path = .linked x ∧ (c.openTo x).connectionTimer = 180 ∧ ToneIsCut c (c.openTo x) x.other
      ∧ (c.openTo x).line x = { c.line x with state := .connected, fareChime := none }
      ∧ ((c.openTo x).line x.other).state = (c.line x.other).state := by
  have hconnected : c.isConnected x = false := by simp [Intercom.isConnected, h]
  have hcalling : c.isCalling x = false := by simp [Intercom.isCalling, h]
  obtain ⟨hpath, htimer, htone, hself, hother⟩ := Intercom.openTo_spec hconnected
  refine ⟨hpath, htimer, .of_deferred htone (by rw [hother]), ?_, by rw [hother]⟩
  rw [hself, Intercom.deferredByCut_of_not_calling hcalling]

/-- R127, R131: what CLOSE makes of the conversation, the other station and the deferred call chimes. -/
theorem Intercom.close_moves (h : c.isConnected x = true) :
    (c.close x).path = .free ∧ (c.close x).connectionTimer = 0 ∧ (c.close x).line x = { c.line x with state := .idle }
      ∧ ((c.close x).line x.other).state = (c.line x.other).state ∧ DeferredChimesSound c (c.close x) := by
  obtain ⟨hpath, htimer, -, hother⟩ := c.close_spec x
  exact ⟨hpath, htimer, c.close_line x, hother, Intercom.close_sounds h⟩

/-- R127, R133: what TALK PRESS makes of the path, the stations and the chimes. -/
theorem Intercom.talk_moves (g : StationSet) (c : Intercom) :
    (c.talk g).path = .talk g ∧ (c.talk g).talkTimer = 30
      ∧ ∀ y, ToneIsCut c (c.talk g) y ∧ ((c.talk g).line y).state = (c.line y).state
        ∧ ((c.talk g).line y).callTimer = (c.line y).callTimer
        ∧ ((c.talk g).line y).fareChime = if g.has y then none else (c.line y).fareChime := by
  obtain ⟨hpath, htimer, htone, hline⟩ := c.talk_spec g
  refine ⟨hpath, htimer, fun y => ⟨.of_deferred htone (by rw [hline]), ?_⟩⟩
  rw [hline]
  exact ⟨rfl, rfl, rfl⟩

/-- R127: the freed path leaves of each line all but whether its chime is deferred. -/
theorem Intercom.freePath_keeps (c : Intercom) (y : Station) :
    (c.freePath.line y).state = (c.line y).state ∧ (c.freePath.line y).privacy = (c.line y).privacy
      ∧ (c.freePath.line y).callTimer = (c.line y).callTimer ∧ (c.freePath.line y).fareChime = (c.line y).fareChime
      ∧ (c.freePath.line y).tracker = (c.line y).tracker := by
  rw [c.freePath_spec.2.2.2 y]
  split <;> exact ⟨rfl, rfl, rfl, rfl, rfl⟩

end

/-- Settles O42: each accepted command is its operation of the intercom, answered with the intercom field after it; what
the operation moves is said line by line. -/
theorem driverCommandsMoveThePath : Obligations.DriverCommandsMoveThePath := by
  intro b x s h hx
  refine ⟨fun hc ht => ?_, fun hb hp hc => ?_, fun hb hp hi hf => ?_, fun hc => ?_, fun e g hg hp => ?_, fun g hp => ?_⟩
  · exact ⟨_, congrArg _ (takeCommand_intercom h (answerBody_accepted hx hc ht)), s.ic.answer_moves x⟩
  · have hcalling : s.ic.isCalling x = false := by
      simp [Intercom.isCalling, Intercom.isConnected_iff.1 hc]
    have e := takeCommand_intercom (args := 1) h (openBody_accepted hx hb hp hcalling (.inl hc))
    rw [Intercom.openTo_connected hc] at e
    exact congrArg _ e
  · have hcalling : s.ic.isCalling x = false := by simp [Intercom.isCalling, hi]
    exact ⟨_, congrArg _ (takeCommand_intercom h (openBody_accepted hx hb hp hcalling (.inr hf))),
      Intercom.openTo_moves hi⟩
  · exact ⟨_, congrArg _ (takeCommand_intercom h (closeBody_accepted hx hc)), Intercom.close_moves hc⟩
  · exact ⟨_, congrArg _ (takeCommand_intercom h (talkPressBody_accepted hg hp)), s.ic.talk_moves g⟩
  · obtain ⟨hpath, -, htimer, -⟩ := s.ic.freePath_spec
    refine ⟨_, congrArg _ (takeCommand_intercom h (talkReleaseBody_accepted hp)), hpath, htimer, s.ic.freePath_sounds,
      fun y => ?_⟩
    obtain ⟨hstate, -, -, hchime, -⟩ := s.ic.freePath_keeps y
    exact ⟨hstate, hchime⟩

/-! ### The samples of the call buttons (R124 to R127) -/

section
variable {x : Station} {s : State}

/-- R124: the state with the tracker of a station moved, and nothing else. -/
def State.moveTracker (x : Station) (t : ButtonTracker) (s : State) : State :=
  s.onIc (·.onLine x (fun l => { l with tracker := t }))

/-- R124: a sample in ACTIVE moves the tracker and takes its action. -/
theorem execButtonSample_eq (h : s.supply.power = .active) {pressed : Bool} {k t : ButtonTracker} {a : ButtonAction}
    (hk : (s.ic.line x).tracker = k) (ht : trackButton k pressed = (t, a)) :
    exec (.buttonSample x pressed) s = .next ((s.moveTracker x t).buttonAction x a) := by
  have e : exec (.buttonSample x pressed) s = execButtonSample x pressed s := rfl
  have hline : s.ic.onLine x (fun l => { l with tracker := (trackButton l.tracker pressed).1 })
      = s.ic.onLine x (fun l => { l with tracker := t }) := by
    unfold Intercom.line at hk
    simp only [Intercom.onLine, hk, ht]
  rw [e, execButtonSample, if_pos h, State.sampleButton, hk, ht, State.onIc, hline]
  rfl

/-- R124: a sample that takes no action moves the tracker alone. -/
theorem execButtonSample_moves (h : s.supply.power = .active) {pressed : Bool} {k t : ButtonTracker}
    (hk : (s.ic.line x).tracker = k) (ht : trackButton k pressed = (t, .nothing)) :
    exec (.buttonSample x pressed) s = .next (s.moveTracker x t) := by
  rw [execButtonSample_eq h hk ht, State.buttonAction, ite_self]

/-- R124: the action of a sample at an unbound station is not taken. -/
theorem State.buttonAction_unbound (h : s.isBound x = false) (a : ButtonAction) : s.buttonAction x a = s :=
  if_neg (by simp [h])

/-- R126: a call is not taken at a station that is CALLING or CONNECTED. -/
theorem State.buttonAction_call_busy (h : (s.ic.line x).state ≠ .idle) : s.buttonAction x .call = s := by
  simp [State.buttonAction, State.call, h]

/-- R126: a call is taken at a bound IDLE station. -/
theorem State.buttonAction_call (hb : s.isBound x = true) (h : (s.ic.line x).state = .idle) :
    s.buttonAction x .call = (s.onIc (·.call x)).raise .call := by
  simp [State.buttonAction, State.call, hb, h]

/-- R125: a privacy toggle is taken at a bound station. -/
theorem State.buttonAction_privacy (hb : s.isBound x = true) :
    s.buttonAction x .privacy = s.onIc (·.togglePrivacy x) := by
  simp [State.buttonAction, hb]

theorem State.moveTracker_line (x : Station) (t : ButtonTracker) (s : State) (y : Station) :
    (s.moveTracker x t).ic.line y = if y = x then { s.ic.line y with tracker := t } else s.ic.line y :=
  Intercom.onLine_line s.ic x y _

/-- A station's line changed to what it is leaves the intercom. -/
theorem Intercom.onLine_self {c : Intercom} {f : StationLine → StationLine} (h : f (c.line x) = c.line x) :
    c.onLine x f = c := by
  unfold Intercom.line at h
  rw [Intercom.onLine, h]
  cases x <;> rfl

/-- R124: a tracker moved to where it stands leaves the state. -/
theorem State.moveTracker_self {t : ButtonTracker} (h : (s.ic.line x).tracker = t) : s.moveTracker x t = s := by
  rw [State.moveTracker, State.onIc, Intercom.onLine_self (by rw [← h])]

/-- R126: the intercom after a short press that is a call. -/
def Intercom.shortPress (x : Station) (c : Intercom) : Intercom :=
  (c.onLine x (fun l => { l with tracker := .up })).call x

/-- R126, R127: what a call by a short press makes of the intercom. -/
theorem Intercom.shortPress_spec (x : Station) (c : Intercom) :
    ((c.shortPress x).line x).state = .calling ∧ ((c.shortPress x).line x).callTimer = 30
      ∧ ((c.shortPress x).line x).tracker = .up ∧ ((c.shortPress x).line x).privacy = (c.line x).privacy
      ∧ (c.shortPress x).path = c.path
      ∧ ((c.shortPress x).line x).deferred = ((c.line x).deferred || c.path != .free)
      ∧ (c.path = .free → c.tone = none →
        (c.shortPress x).tone = some { station := x, left := 20, queued := none })
      ∧ (∀ tone, c.path = .free → c.tone = some tone → tone.station = x.other →
        (c.shortPress x).tone = some { tone with queued := some x })
      ∧ (c.path ≠ .free → (c.shortPress x).tone = c.tone)
      ∧ (c.shortPress x).line x.other = c.line x.other := by
  obtain ⟨hpath, hline⟩ := (c.onLine x (fun l => { l with tracker := .up })).call_spec x
  have hself := hline x
  have hother := hline x.other
  rw [if_pos rfl, Intercom.onLine_line, if_pos rfl] at hself
  rw [if_neg (Station.other_ne x), Intercom.onLine_line, if_neg (Station.other_ne x)] at hother
  refine ⟨?_, ?_, ?_, ?_, hpath, ?_, fun h => (Intercom.call_tone_free (c := c.onLine x _) h).1,
    fun tone h => (Intercom.call_tone_free (c := c.onLine x _) h).2 tone, fun h => Intercom.call_tone_busy h, hother⟩
  all_goals rw [Intercom.shortPress, hself]
  rfl

end

/-- Settles O43: in ACTIVE each sample moves its tracker, and the action it takes is a call at a bound IDLE station, a
privacy toggle at a bound one, or nothing. -/
theorem buttonSamplesCallOrToggle : Obligations.ButtonSamplesCallOrToggle := by
  refine ⟨fun x pressed s hp => congrArg _ (if_neg hp), fun x s hp => ⟨fun n ht hb hi => ?_, fun n ht hbusy => ?_,
    fun ht hb => ?_, fun ht hb => ?_, fun n hn ht => ?_, fun ht => ?_, fun ht => ?_, fun ht => ?_, fun ht => ?_⟩⟩
  · have hidle : ((s.moveTracker x .up).ic.line x).state = .idle := by rw [State.moveTracker_line, if_pos rfl, hi]
    have hcall := State.buttonAction_call (s := s.moveTracker x .up) hb hidle
    exact ⟨_, (execButtonSample_eq hp ht rfl).trans (congrArg _ hcall), s.ic.shortPress_spec x⟩
  · refine (execButtonSample_eq hp ht rfl).trans (congrArg _ ?_)
    rcases hbusy with hb | hi
    · exact State.buttonAction_unbound (s := s.moveTracker x .up) hb _
    · exact State.buttonAction_call_busy (s := s.moveTracker x .up) (by rwa [State.moveTracker_line, if_pos rfl])
  · have htoggle := State.buttonAction_privacy (s := s.moveTracker x .long) hb
    refine (execButtonSample_eq hp ht rfl).trans (congrArg _ (htoggle.trans ?_))
    cases x <;> rfl
  · exact (execButtonSample_eq hp ht rfl).trans
      (congrArg _ (State.buttonAction_unbound (s := s.moveTracker x .long) hb _))
  · exact execButtonSample_moves hp ht (if_pos hn)
  · exact execButtonSample_moves hp ht rfl
  · rw [execButtonSample_moves hp ht rfl, State.moveTracker_self ht]
  · rw [execButtonSample_moves hp ht rfl, State.moveTracker_self ht]
  · exact execButtonSample_moves hp ht rfl

/-! ### The link reset (R185) -/

/-- R127, R138: a link reset releases an announcement, with the deferred call chimes sounded, and finds any other
intercom as it is. -/
theorem Intercom.linkReset_spec (c : Intercom) :
    ((∀ g, c.path ≠ .talk g) → c.linkReset = c) ∧ ∀ g, c.path = .talk g → c.linkReset = c.freePath := by
  unfold Intercom.linkReset
  cases c.path <;> simp

/-- R185: a link reset taken in ACTIVE or STANDBY, block by block. -/
theorem execLinkReset_eq {s : State} (h : s.supply.power ≠ .holdover) :
    exec .linkReset s = .next
      { s with
        dash := { frame := .idle, counted := 0, watch := none, events := 0, mask := 0xFFFF, drstLow := true }
        store := { s.store with latch := false, stagingLoaded := false, staging := blankImage }
        ic := s.ic.linkReset
        sign := { s.sign with
          filter := 4, lamps := s.sign.lamps.map (fun l => { l with outRun := 0, inRun := 0 }) }
        supply := { s.supply with standbyRequest := false } } := by
  have e : exec .linkReset s = execLinkReset s := rfl
  rw [e, execLinkReset, if_neg h]
  rfl

/-- Settles O53: the reset's next state is written out block by block; of the intercom it releases an announcement
alone. -/
theorem linkResetKeepsTheRest : Obligations.LinkResetKeepsTheRest := by
  refine fun s => ⟨fun h => ⟨s.ic.linkReset, execLinkReset_eq h, s.ic.linkReset_spec.1, fun g hg => ?_⟩, rfl⟩
  obtain ⟨hpath, -, htimer, -⟩ := s.ic.freePath_spec
  rw [s.ic.linkReset_spec.2 g hg]
  refine ⟨hpath, htimer, s.ic.freePath_sounds, fun y => ?_⟩
  obtain ⟨hstate, hprivacy, hcall, -, htracker⟩ := s.ic.freePath_keeps y
  exact ⟨hstate, hprivacy, htracker, hcall⟩

/-! ### The front of the queue -/

/-- Settles O1: a step takes the front command where one waits, and a chime period where none does. -/
theorem frontCommandIsTaken : Obligations.FrontCommandIsTaken := by
  refine ⟨fun _ _ _ => rfl, fun s h => ?_⟩
  rw [step, h]

end Sys2Proof.Machine
end

section
/-! PROOFS. Every operation of the intercom that is taken where its command or event takes it, and with them every step,
keeps a station CONNECTED exactly when the driver path is LINKED to it (O9). -/

namespace Sys2Proof.Machine

/-! ### The intercom's own operations (R122) -/

theorem Station.eq_or_eq_other (x y : Sys2Proof.Station) : y = x ∨ y = x.other := by
  cases x <;> cases y <;> simp [Station.other]

/-- R122: a station of the intercom is CONNECTED when, and only when, the path is LINKED to it. -/
def Intercom.LinksConnected (c : Intercom) : Prop := ∀ x, (c.line x).state = .connected ↔ c.path = .linked x

theorem connectedIsLinked_iff {s : State} : ConnectedIsLinked s ↔ s.ic.LinksConnected :=
  forall_congr' fun _ => iff_congr Intercom.isConnected_iff Iff.rfl

namespace Intercom.LinksConnected

section
variable {c d : Intercom} {x : Station}

/-- R122: an operation that leaves the path, and leaves CONNECTED who was. -/
theorem of_frame (h : c.LinksConnected) (hp : d.path = c.path)
    (hs : ∀ y, (d.line y).state = .connected ↔ (c.line y).state = .connected) : d.LinksConnected := fun y => by
  rw [hp]
  exact (hs y).trans (h y)

/-- R122: an operation that leaves the path, and each station's state. -/
theorem of_states (h : c.LinksConnected) (hp : d.path = c.path) (hs : ∀ y, (d.line y).state = (c.line y).state) :
    d.LinksConnected := h.of_frame hp fun y => by rw [hs y]

/-- R122: with the path not LINKED, no station is CONNECTED. -/
theorem of_unlinked (hp : ∀ y, d.path ≠ .linked y) (hs : ∀ y, (d.line y).state ≠ .connected) : d.LinksConnected :=
  fun y => iff_of_false (hs y) (hp y)

/-- R122: with the path LINKED to a station, it alone is CONNECTED. -/
theorem of_linked (hp : d.path = .linked x) (hx : (d.line x).state = .connected)
    (ho : (d.line x.other).state ≠ .connected) : d.LinksConnected := fun y => by
  rw [hp]
  rcases Station.eq_or_eq_other x y with rfl | rfl
  · exact iff_of_true hx rfl
  · exact iff_of_false ho fun e => Station.other_ne x (DriverPath.linked.inj e).symm

theorem not_connected (h : c.LinksConnected) (hp : c.path ≠ .linked x) : (c.line x).state ≠ .connected := mt (h x).1 hp

/-- R122: while a station is CONNECTED the other is not. -/
theorem other_not_connected (h : c.LinksConnected) (hp : c.path = .linked x) : (c.line x.other).state ≠ .connected :=
  h.not_connected fun e => Station.other_ne x (DriverPath.linked.inj (e.symm.trans hp))

/-- One station's line changed, CONNECTED or not as it was. -/
theorem onLine (h : c.LinksConnected) {f : StationLine → StationLine}
    (hf : (f (c.line x)).state = .connected ↔ (c.line x).state = .connected) : (c.onLine x f).LinksConnected :=
  h.of_frame rfl fun y => by
    rw [Intercom.onLine_line]
    split
    · rename_i e; subst e; exact hf
    · exact Iff.rfl

/-- R127: the path freed from an announcement, or where no station is CONNECTED. -/
theorem freePath (hs : ∀ y, (c.line y).state ≠ .connected) : c.freePath.LinksConnected :=
  of_unlinked (fun y => by rw [c.freePath_spec.1]; nofun) fun y => by rw [(c.freePath_keeps y).1]; exact hs y

theorem freePath_talk (h : c.LinksConnected) {g : StationSet} (hp : c.path = .talk g) : c.freePath.LinksConnected :=
  freePath fun _ => h.not_connected (by rw [hp]; nofun)

/-- R129: an ANSWER takes the conversation over. -/
theorem answer (h : c.LinksConnected) (x : Station) : (c.answer x).LinksConnected := by
  obtain ⟨hpath, -, -, hself, hother⟩ := c.answer_spec x
  refine of_linked hpath (by rw [hself]) ?_
  rw [hother]
  dsimp only
  split
  · nofun
  · rename_i hp; exact h.not_connected hp

/-- R130: an OPEN in the station's own conversation, or on a FREE path. -/
theorem openTo (h : c.LinksConnected) (ho : c.isConnected x = true ∨ c.path = .free) : (c.openTo x).LinksConnected := by
  cases hc : c.isConnected x with
  | true =>
    rw [Intercom.openTo_connected hc]
    exact h.of_states rfl fun _ => rfl
  | false =>
    have hfree : c.path = .free := ho.resolve_left (by simp [hc])
    obtain ⟨hpath, -, -, hself, hother⟩ := Intercom.openTo_spec hc
    refine of_linked hpath (by rw [hself]) ?_
    rw [hother]
    exact h.not_connected (by rw [hfree]; nofun)

/-- R131: a conversation closed. -/
theorem close (h : c.LinksConnected) (hp : c.path = .linked x) : (c.close x).LinksConnected := by
  obtain ⟨hpath, -, hself, hother⟩ := c.close_spec x
  refine of_unlinked (fun y => by rw [hpath]; nofun) fun y => ?_
  rcases Station.eq_or_eq_other x y with rfl | rfl
  · rw [hself]; nofun
  · rw [hother]; exact h.other_not_connected hp

/-- R133: an announcement on a FREE path. -/
theorem talk (h : c.LinksConnected) (hp : c.path = .free) (g : StationSet) : (c.talk g).LinksConnected := by
  obtain ⟨hpath, -, -, hline⟩ := c.talk_spec g
  refine of_unlinked (fun y => by rw [hpath]; nofun) fun y => ?_
  rw [hline]
  exact h.not_connected (by rw [hp]; nofun)

/-- R126: a call at an IDLE station. -/
theorem call (h : c.LinksConnected) (hi : (c.line x).state = .idle) : (c.call x).LinksConnected := by
  obtain ⟨hpath, hline⟩ := c.call_spec x
  refine h.of_frame hpath fun y => ?_
  rw [hline]
  split
  · rename_i e; subst e; simp [hi]
  · exact Iff.rfl

/-- R128: a call that ends by its timer. -/
theorem missed (h : c.LinksConnected) (hc : c.isCalling x = true) :
    ((c.leaveCalling x).makeIdle x).LinksConnected := by
  obtain ⟨hself, hpath, hother, -⟩ := Intercom.missed_spec x c
  refine h.of_frame hpath fun y => ?_
  rcases Station.eq_or_eq_other x y with rfl | rfl
  · simp [hself, Intercom.isCalling_iff.1 hc]
  · rw [hother]

/-- R23: the stations of a set unbound: a path LINKED to one of them is freed, and any other is kept. -/
theorem unbind (h : c.LinksConnected) (g : StationSet) : (c.unbind g).LinksConnected := by
  obtain ⟨hin, hout, hfreed, hkept⟩ := Intercom.leavesUnbound g c
  by_cases hl : ∃ z, c.path = .linked z ∧ g.has z = true
  · obtain ⟨z, hp, hz⟩ := hl
    refine of_unlinked (fun y => by rw [(hfreed z hp hz).1]; nofun) fun y => ?_
    cases hy : g.has y with
    | true => rw [(hin y hy).1]; nofun
    | false =>
      rw [(hout y hy).1]
      refine h.not_connected fun e => ?_
      obtain rfl : z = y := DriverPath.linked.inj (hp.symm.trans e)
      exact Bool.false_ne_true (hy.symm.trans hz)
  · have hall : ∀ z, c.path = .linked z → g.has z = false := fun z hz =>
      Bool.eq_false_iff.2 fun e => hl ⟨z, hz, e⟩
    refine h.of_frame (hkept hall).1 fun y => ?_
    cases hy : g.has y with
    | true =>
      rw [(hin y hy).1]
      exact iff_of_false nofun (h.not_connected fun e => Bool.false_ne_true ((hall y e).symm.trans hy))
    | false => rw [(hout y hy).1]

/-- R135: fare chimes requested. -/
theorem chimeAll (h : c.LinksConnected) (kind : ChimeKind) (g : StationSet) : (c.chimeAll kind g).LinksConnected := by
  obtain ⟨-, hpath, hline⟩ := c.chimeAll_spec kind g
  refine h.of_states hpath fun y => ?_
  rw [hline]
  split <;> rfl

/-! ### Timers, periods, power states and resets -/

theorem connectionTick (h : c.LinksConnected) : c.connectionTick.LinksConnected := by
  unfold Intercom.connectionTick
  split
  · rename_i x hp
    split
    · exact h.close hp
    · exact h.of_states rfl fun _ => rfl
  · exact h

theorem talkTick (h : c.LinksConnected) : c.talkTick.LinksConnected := by
  unfold Intercom.talkTick
  split
  · rename_i g hp
    split
    · exact h.freePath_talk hp
    · exact h.of_states rfl fun _ => rfl
  · exact h

theorem pathTicked (h : c.LinksConnected) : c.pathTicked.LinksConnected := by
  unfold Intercom.pathTicked
  split
  · exact h.connectionTick
  · exact h.talkTick
  · exact h

theorem callTicked (h : c.LinksConnected) (x : Station) : (c.callTicked x).LinksConnected := by
  unfold Intercom.callTicked
  split
  · rename_i hc
    split
    · exact h.missed hc
    · exact h.onLine Iff.rfl
  · exact h

theorem linkReset (h : c.LinksConnected) : c.linkReset.LinksConnected := by
  unfold Intercom.linkReset
  split
  · rename_i g hp; exact h.freePath_talk hp
  · exact h

theorem endTone (h : c.LinksConnected) : c.endTone.LinksConnected := by
  obtain ⟨hstations, hpath, -⟩ := c.endTone_frame
  exact h.of_states hpath fun y => by rw [Intercom.line, hstations]; rfl

theorem period (h : c.LinksConnected) : c.period.LinksConnected := by
  obtain ⟨hpath, -, -, hline⟩ := c.period_spec
  exact h.of_states hpath fun y => by rw [hline]

theorem silent (h : c.LinksConnected) : c.silent.LinksConnected :=
  h.of_states rfl fun y => by rw [Intercom.silent_line]

theorem trackersLong (h : c.LinksConnected) : c.trackersLong.LinksConnected :=
  h.of_states rfl fun y => by cases y <;> rfl

/-- R137: with every station IDLE and the path FREE. -/
theorem allIdle (c : Intercom) : c.allIdle.LinksConnected :=
  of_unlinked (fun _ => nofun) fun y => by cases y <;> nofun

end

end Intercom.LinksConnected

theorem coldIntercom_linksConnected : coldIntercom.LinksConnected :=
  .of_unlinked (fun _ => nofun) fun y => by cases y <;> nofun

end Sys2Proof.Machine
end

section
/-! PROOFS. What every command and every step makes of the intercom keeps CONNECTED and LINKED together (O9). -/

namespace Sys2Proof.Machine

/-! ### What the operations of the state make of the intercom -/

@[simp] theorem State.enterStandby_ic (s : State) : s.enterStandby.ic = s.ic.allIdle := by simp [State.enterStandby]

@[simp] theorem State.wake_ic (s : State) : s.wake.ic = s.ic.trackersLong := by simp [State.wake]

@[simp] theorem okSign_ic (s : State) : (okSign s).2.ic = s.ic := s.followSign_ic

@[simp] theorem State.repostDue_ic (t : Trip) (s : State) : (s.repostDue t).ic = s.ic := by
  unfold State.repostDue
  split <;> simp

/-- R116, R117: a settlement by the driver unbinds the fare's stations. -/
@[simp] theorem State.settleByDriver_ic (i : Fin 4) (t : Trip) (m : Method) (captured tip : Nat) (s : State) :
    (s.settleByDriver i t m captured tip).ic = s.ic.unbind t.stations := by
  simp [State.settleByDriver]

/-- R111: a declined result sounds the decline chime at the fare's stations. -/
@[simp] theorem State.payDeclined_ic (x : Station) (i : Fin 4) (t : Trip) (s : State) :
    (s.payDeclined x i t).ic = s.ic.chimeAll .decline t.stations := by
  simp [State.payDeclined]

section
variable {s t : State}

/-! ### Taking commands and messages -/

/-- R122 is kept where both branches of an event keep it. -/
theorem linksConnected_ite {c : Prop} [Decidable c] (hs : c → s.ic.LinksConnected) (ht : ¬c → t.ic.LinksConnected) :
    (if c then s else t).ic.LinksConnected := by
  split
  · rename_i hc; exact hs hc
  · rename_i hc; exact ht hc

/-- A check that refuses leaves the state as it was; the command goes on where it passes. -/
theorem unlessRefused_links {c : Prop} [Decidable c] {length : Nat} {code : ResultCode} {r : Reply × State}
    (h : s.ic.LinksConnected) (hr : ¬c → r.2.ic.LinksConnected) :
    (if c then refuse length code s else r).2.ic.LinksConnected := by
  split
  · exact h
  · rename_i hc; exact hr hc

/-- A command leaves of the intercom what its body leaves. -/
theorem takeCommand_links {args : Nat} {body : State → Reply × State} (h : s.ic.LinksConnected)
    (hb : (body s).2.ic.LinksConnected) : (takeCommand args body s).ic.LinksConnected := by
  rcases takeCommand_cases args body s with ⟨-, e⟩ | ⟨-, e⟩ <;> rw [e]
  · exact h
  · simpa using hb

/-- A command whose body leaves the intercom leaves it. -/
theorem takeCommand_keepsLinks {args : Nat} {body : State → Reply × State} (h : s.ic.LinksConnected)
    (hb : (body s).2.ic = s.ic) : (takeCommand args body s).ic.LinksConnected :=
  takeCommand_links h (by rwa [hb])

theorem takeMessage_links {body : State → State} (h : s.ic.LinksConnected) (hb : (body s).ic.LinksConnected) :
    (takeMessage body s).ic.LinksConnected := by
  rcases takeMessage_cases body s with ⟨-, e⟩ | ⟨-, e⟩ <;> rw [e]
  · exact h
  · rwa [State.followSign_ic]

theorem withSlot_links {length : Nat} {slot : Byte} {f : Fin 4 → Trip → Reply × State} (h : s.ic.LinksConnected)
    (hf : ∀ i t, (f i t).2.ic.LinksConnected) : (withSlot length slot s f).2.ic.LinksConnected := by
  rcases withSlot_cases length slot s f with ⟨-, e⟩ | ⟨i, -, -, e⟩ | ⟨i, t, -, -, e⟩ <;> rw [e]
  · exact h
  · exact h
  · exact hf i t

theorem withSlot_keepsLinks {length : Nat} {slot : Byte} {f : Fin 4 → Trip → Reply × State} (h : s.ic.LinksConnected)
    (hf : ∀ i t, (f i t).2.ic = s.ic) : (withSlot length slot s f).2.ic.LinksConnected :=
  withSlot_links h fun i t => by rwa [hf i t]

theorem withFare_links {x : Station} {kind : Byte} {n : Nat} {f : Fin 4 → Trip → State} (h : s.ic.LinksConnected)
    (hf : ∀ i t, (f i t).ic.LinksConnected) : (withFare x kind n s f).ic.LinksConnected := by
  rcases withFare_cases x kind n s f with e | ⟨i, t, -, -, -, e⟩ | ⟨i, t, -, -, -, e⟩ <;> rw [e]
  · rwa [State.deny_ic]
  · rwa [State.deny_ic]
  · exact hf i t

theorem deny_links {x : Station} {kind : Byte} {r : Reason} {o : Option Trip} (h : s.ic.LinksConnected) :
    (s.deny x kind r o).ic.LinksConnected := by rwa [State.deny_ic]

/-! ### The driver's commands (R129 to R133) -/

theorem answerBody_links (h : s.ic.LinksConnected) (b : Byte) : (answerBody b s).2.ic.LinksConnected := by
  unfold answerBody
  split
  · exact h
  · exact unlessRefused_links h fun _ => unlessRefused_links h fun _ => h.answer _

theorem openBody_links (h : s.ic.LinksConnected) (b : Byte) : (openBody b s).2.ic.LinksConnected := by
  unfold openBody
  split
  · exact h
  · refine unlessRefused_links h fun _ => unlessRefused_links h fun _ => unlessRefused_links h fun ho => h.openTo ?_
    simpa [or_iff_not_imp_left] using ho

theorem closeBody_links (h : s.ic.LinksConnected) (b : Byte) : (closeBody b s).2.ic.LinksConnected := by
  unfold closeBody
  split
  · exact h
  · rename_i x _
    split
    · rename_i hc; exact h.close ((h x).1 (Intercom.isConnected_iff.1 hc))
    · exact h

theorem talkPressBody_links (h : s.ic.LinksConnected) (e : Byte) : (talkPressBody e s).2.ic.LinksConnected := by
  unfold talkPressBody
  split
  · exact h
  · split
    · rename_i hp; exact h.talk hp _
    · exact h

theorem talkReleaseBody_links (h : s.ic.LinksConnected) : (talkReleaseBody s).2.ic.LinksConnected := by
  unfold talkReleaseBody
  split
  · rename_i ht
    cases hp : s.ic.path with
    | talk g => exact h.freePath_talk hp
    | free | linked => simp [hp, DriverPath.isTalk] at ht
  · exact h

/-! ### Fares and settlements (R11, R23, R135) -/

theorem State.announceStop_links (h : s.ic.LinksConnected) (i : Fin 4) : (s.announceStop i).ic.LinksConnected := by
  unfold State.announceStop
  split
  · exact h
  · rw [State.onIc_ic, State.postDue_ic]
    exact h.chimeAll _ _

theorem stopFareBody_links (h : s.ic.LinksConnected) (slot : Byte) : (stopFareBody slot s).2.ic.LinksConnected :=
  withSlot_links h fun i v => by
    split
    · exact State.announceStop_links (by simpa using h) i
    · exact h

theorem recordCashBody_links (h : s.ic.LinksConnected) (slot : Byte) (tip : Nat) :
    (recordCashBody slot tip s).2.ic.LinksConnected :=
  withSlot_links h fun i v => unlessRefused_links h fun _ => unlessRefused_links h fun _ =>
    unlessRefused_links h fun _ => by simpa using (h.unbind v.stations).chimeAll .paid v.stations

theorem declareUnpaidBody_links (h : s.ic.LinksConnected) (slot : Byte) :
    (declareUnpaidBody slot s).2.ic.LinksConnected :=
  withSlot_links h fun i v => unlessRefused_links h fun _ => unlessRefused_links h fun _ => by
    simpa using h.unbind v.stations

theorem payResultBody_links (h : s.ic.LinksConnected) (x : Station) (trip : Nat) (outcome : Byte)
    (captured tip reference : Nat) : (payResultBody x trip outcome captured tip reference s).ic.LinksConnected := by
  unfold payResultBody
  split
  · exact deny_links h
  refine linksConnected_ite (fun _ => deny_links h) fun _ => withFare_links h fun i v => ?_
  unfold payResultOn
  refine linksConnected_ite (fun _ => linksConnected_ite (fun _ => h) fun _ => deny_links h) fun _ =>
    linksConnected_ite (fun _ => deny_links h) fun _ => ?_
  split
  · exact linksConnected_ite (fun _ => deny_links h) fun _ => linksConnected_ite (fun _ => deny_links h) fun _ =>
      (h.unbind _).chimeAll _ _
  · rw [State.payDeclined_ic]
    exact h.chimeAll _ _
  · simpa [State.payCancelled] using h

/-! ### Messages that leave the stations bound -/

theorem holdPlacedBody_links (h : s.ic.LinksConnected) (x : Station) (trip reference amount : Nat) :
    (holdPlacedBody x trip reference amount s).ic.LinksConnected := by
  refine linksConnected_ite (fun _ => deny_links h) fun _ => withFare_links h fun i v => ?_
  unfold holdPlacedOn
  repeat' split
  all_goals simpa [State.placeHold] using h

theorem holdReleasedBody_ic (x : Station) (reference : Nat) (s : State) :
    (holdReleasedBody x reference s).ic = s.ic := by
  unfold holdReleasedBody State.releaseHold State.acceptRelease
  repeat' split
  all_goals simp

theorem payBeginOn_ic (x : Station) (i : Fin 4) (v : Trip) (s : State) : (payBeginOn x i v s).ic = s.ic := by
  unfold payBeginOn
  repeat' split
  all_goals simp

theorem payVoidBody_links (h : s.ic.LinksConnected) (x : Station) (trip reference : Nat) :
    (payVoidBody x trip reference s).ic.LinksConnected := by
  refine linksConnected_ite (fun _ => deny_links h) fun _ => withFare_links h fun i v => ?_
  unfold payVoidOn
  repeat' split
  all_goals simpa [State.voidPayment] using h

/-! ### Samples, timers and the second rollover -/

theorem State.sampleButton_links (h : s.ic.LinksConnected) (x : Station) (pressed : Bool) :
    (s.sampleButton x pressed).ic.LinksConnected := by
  have htrack : (s.ic.onLine x (fun l => { l with tracker := (trackButton l.tracker pressed).1 })).LinksConnected :=
    h.onLine Iff.rfl
  unfold State.sampleButton State.buttonAction
  refine linksConnected_ite (fun _ => ?_) fun _ => htrack
  split
  · exact htrack
  · exact linksConnected_ite (fun hi => htrack.call hi) fun _ => htrack
  · exact htrack.onLine Iff.rfl

theorem State.wake_links (h : s.ic.LinksConnected) : s.wake.ic.LinksConnected := by
  rw [State.wake_ic]
  exact h.trackersLong

theorem State.wakeIfStandby_links (h : s.ic.LinksConnected) : s.wakeIfStandby.ic.LinksConnected :=
  linksConnected_ite (fun _ => State.wake_links h) fun _ => h

theorem State.putFrame_links (h : s.ic.LinksConnected) (f : FrameState) : (s.putFrame f).ic.LinksConnected := h

theorem State.sampleIgnition_links (h : s.ic.LinksConnected) (high : Bool) :
    (s.sampleIgnition high).ic.LinksConnected :=
  linksConnected_ite (fun _ => State.wakeIfStandby_links h) fun _ => h

/-- R147: an alert raised may wake the part. -/
theorem State.raiseAlert_links (h : s.ic.LinksConnected) (w : Lamps Bool) : (s.raiseAlert w).ic.LinksConnected := by
  have hperiod : (s.endPeriodEarly w).ic.LinksConnected :=
    linksConnected_ite (fun _ => by rwa [State.sampleLamps_ic]) fun _ => h
  rw [State.raiseAlert, State.followSign_ic]
  exact State.wakeIfStandby_links (s := (s.endPeriodEarly w).latchAlert) hperiod

theorem State.sampleAlert_links (h : s.ic.LinksConnected) (pressed : Bool) (w : Lamps Bool) :
    (s.sampleAlert pressed w).ic.LinksConnected :=
  have htrack : ∀ f, (s.onSign f).ic.LinksConnected := fun _ => h
  linksConnected_ite (fun _ => State.raiseAlert_links (htrack _) w) fun _ => htrack _

theorem State.countIgnitionOff_links (h : s.ic.LinksConnected) : s.countIgnitionOff.ic.LinksConnected :=
  linksConnected_ite (fun _ => by rw [State.enterStandby_ic]; exact .allIdle _) fun _ => h

theorem State.ignitionTick_links (h : s.ic.LinksConnected) : s.ignitionTick.ic.LinksConnected :=
  linksConnected_ite (fun _ => State.countIgnitionOff_links h) fun _ => h

theorem State.honourStandby_links (h : s.ic.LinksConnected) : s.honourStandby.ic.LinksConnected :=
  linksConnected_ite (fun _ => linksConnected_ite (fun _ => by rw [State.enterStandby_ic]; exact .allIdle _) fun _ => h)
    fun _ => h

/-- R128, R132, R134: the intercom's part of a rollover. -/
theorem State.intercomTick_links (h : s.ic.LinksConnected) : s.intercomTick.ic.LinksConnected := by
  rw [State.intercomTick_ic]
  exact ((h.callTicked .left).callTicked .right).pathTicked

theorem State.inActive_links {f : State → State} (h : s.ic.LinksConnected) (hf : (f s).ic.LinksConnected) :
    (s.inActive f).ic.LinksConnected := linksConnected_ite (fun _ => hf) fun _ => h

theorem State.outsideHoldover_links {f : State → State} (h : s.ic.LinksConnected) (hf : (f s).ic.LinksConnected) :
    (s.outsideHoldover f).ic.LinksConnected := linksConnected_ite (fun _ => h) fun _ => hf

/-- R62, R171: a rollover counts the intercom's timers, and may enter standby. -/
theorem secondRollover_links (h : s.ic.LinksConnected) : ∃ t, execSecondRollover s = .next t ∧ t.ic.LinksConnected := by
  have hclosed : s.tickCalendar.fareSecond.closeSecond.ic.LinksConnected := by simpa using h
  have hfares := State.inActive_links (f := State.fareTimers) hclosed (by rwa [State.fareTimers_ic])
  have hintercom := State.inActive_links hfares (State.intercomTick_links hfares)
  have hbreak := State.outsideHoldover_links (f := State.breakTick) hintercom hintercom
  have hignition := State.ignitionTick_links hbreak
  have hminute := State.outsideHoldover_links (f := State.minuteTick) hignition (by rwa [State.minuteTick_ic])
  exact ⟨_, rfl, by rw [State.followSign_ic]; exact hminute⟩

/-! ### Every command and every step -/

theorem State.takeUnlisted_links (h : s.ic.LinksConnected) (code : Byte) : (s.takeUnlisted code).ic.LinksConnected :=
  linksConnected_ite (fun _ => h) fun _ => takeCommand_links h h

/-- R176: a supply return leaves every station IDLE and the path FREE. -/
theorem State.return_links (s : State) : s.returnStores.returnBlocks.returnPower.ic.LinksConnected := by
  have hic : s.returnStores.returnBlocks.returnPower.ic = s.ic.allIdle.trackersLong := by
    simp [State.returnStores, State.returnBlocks, State.returnPower]
  rw [hic]
  exact (Intercom.LinksConnected.allIdle _).trackersLong

/-- R122: each command keeps a station CONNECTED exactly when the path is LINKED to it. -/
theorem exec_links (c : Instr) (h : s.ic.LinksConnected) : ∃ t, exec c s = .next t ∧ t.ic.LinksConnected := by
  cases c with
  | answer b => exact ⟨_, rfl, takeCommand_links h (answerBody_links h b)⟩
  | openStation b => exact ⟨_, rfl, takeCommand_links h (openBody_links h b)⟩
  | closeStation b => exact ⟨_, rfl, takeCommand_links h (closeBody_links h b)⟩
  | talkPress e => exact ⟨_, rfl, takeCommand_links h (talkPressBody_links h e)⟩
  | talkRelease => exact ⟨_, rfl, takeCommand_links h (talkReleaseBody_links h)⟩
  | stopFare slot => exact ⟨_, rfl, takeCommand_links h (stopFareBody_links h slot)⟩
  | recordCash => exact ⟨_, rfl, takeCommand_links h (recordCashBody_links h _ _)⟩
  | declareUnpaid slot => exact ⟨_, rfl, takeCommand_links h (declareUnpaidBody_links h slot)⟩
  | holdPlaced => exact ⟨_, rfl, takeMessage_links h (holdPlacedBody_links h _ _ _ _)⟩
  | holdReleased => exact ⟨_, rfl, takeMessage_links h (by rwa [holdReleasedBody_ic])⟩
  | payBegin => exact ⟨_, rfl, takeMessage_links h (withFare_links h fun _ _ => by rwa [payBeginOn_ic])⟩
  | payResult => exact ⟨_, rfl, takeMessage_links h (payResultBody_links h _ _ _ _ _ _)⟩
  | payVoid => exact ⟨_, rfl, takeMessage_links h (payVoidBody_links h _ _ _)⟩
  | fareQuery => exact ⟨_, rfl, takeMessage_links h h⟩
  | buttonSample x pressed =>
    exact ⟨_, rfl, linksConnected_ite (fun _ => State.sampleButton_links h x pressed) fun _ => h⟩
  | callTimerExpiry => exact ⟨_, rfl, linksConnected_ite (fun ⟨_, hc, _⟩ => h.missed hc) fun _ => h⟩
  | connectionExpiry => exact ⟨_, rfl, linksConnected_ite (fun _ => h.connectionTick) fun _ => h⟩
  | talkExpiry => exact ⟨_, rfl, linksConnected_ite (fun _ => h.talkTick) fun _ => h⟩
  | callChimeEnd => exact ⟨_, rfl, linksConnected_ite (fun _ => h.endTone) fun _ => h⟩
  | fareChimeEnd => exact ⟨_, rfl, linksConnected_ite (fun _ => h.onLine Iff.rfl) fun _ => h⟩
  | secondRollover => exact secondRollover_links h
  | linkReset => exact ⟨_, rfl, linksConnected_ite (fun _ => h) fun _ => h.linkReset⟩
  | ignitionOffTimerExpiry =>
    exact ⟨_, rfl, linksConnected_ite (fun _ => State.countIgnitionOff_links h) fun _ => h⟩
  | dcsRising => exact ⟨_, rfl, State.honourStandby_links h⟩
  | dcsFalling =>
    exact ⟨_, rfl, linksConnected_ite (fun _ => h) fun _ =>
      linksConnected_ite (fun _ => State.putFrame_links (State.wake_links h) _) fun _ => State.putFrame_links h _⟩
  | ignSample high =>
    exact ⟨_, rfl, linksConnected_ite (fun _ => h) fun _ => State.sampleIgnition_links h high⟩
  | alswSample pressed w =>
    exact ⟨_, rfl, linksConnected_ite (fun _ => h) fun _ => State.sampleAlert_links h pressed w⟩
  | supplyLoss =>
    refine ⟨_, rfl, linksConnected_ite (fun _ => h) fun _ => ?_⟩
    rw [State.loseSupply_eq, State.followSign_ic]
    exact h.silent
  | supplyReturn => exact ⟨_, rfl, linksConnected_ite (fun _ => s.return_links) fun _ => h⟩
  | coldStart =>
    refine ⟨_, rfl, linksConnected_ite (fun _ => ?_) fun _ => h⟩
    rw [State.coldStart_eq]
    exact coldIntercom_linksConnected
  | badCommand code => exact ⟨_, rfl, linksConnected_ite (fun _ => h) fun _ => State.takeUnlisted_links h code⟩
  | watchModeExit => exact ⟨_, rfl, State.takeUnlisted_links h _⟩
  | drstRising | batteryDomainLoss => exact ⟨_, rfl, h⟩
  | noticeRead part =>
    have hread : (s.readNotice part).ic = s.ic := by cases part <;> simp [State.readNotice]
    exact ⟨_, rfl, linksConnected_ite (fun _ => by rwa [hread]) fun _ => h⟩
  | readClock | readTotalizers | readStatus | identify | readEvents | setEventMask =>
    exact ⟨_, rfl, takeCommand_keepsLinks h rfl⟩
  | startFare | loadStage | stageWrite | readItem | enableCommit | commit | standby | signSetup | shiftOpen | shiftBreak
  | shiftResume | shiftClose | readShift | releaseShift | watch =>
    refine ⟨_, rfl, takeCommand_keepsLinks h ?_⟩
    simp only [startFareBody, startFareWith, startFareUnder, loadStageBody, stageWriteBody, readItemBody,
      enableCommitBody, commitBody, standbyBody, signSetupBody, shiftOpenBody, shiftBreakBody, shiftResumeBody,
      shiftCloseBody, readShiftBody, releaseShiftBody, watchBody]
    repeat' split
    all_goals rfl
  | setClock | adjustClock | signDuty | shareAccept | clearAlert =>
    refine ⟨_, rfl, takeCommand_keepsLinks h ?_⟩
    simp only [setClockBody, adjustClockBody, signDutyBody, shareAcceptBody, clearAlertBody]
    repeat' split
    all_goals simp [State.setClock, State.adjustClock]
  | pauseFare | resumeFare | reopenFare | readTrip | releaseTrip | addExtra | cancelExtra =>
    refine ⟨_, rfl, takeCommand_links h (withSlot_keepsLinks h fun i v => ?_)⟩
    repeat' split
    all_goals simp [State.pauseFare, State.addExtra, State.releaseTrip]
  | paymentTimerExpiry | acceptedEdge | dsensSample | svcSample | lampPeriodEnd | partitionWriteDiscarded
  | selectorWrite | commitWriteSuccess | commitWriteFailure | mirrorWriteSuccess | mirrorWriteFailure =>
    refine ⟨_, rfl, ?_⟩
    repeat' split
    all_goals simpa [State.commitSucceeds, State.commitFails, State.mirrorSucceeds] using h

/-- R122: each step keeps a station CONNECTED exactly when the path is LINKED to it. -/
theorem step_links (h : s.ic.LinksConnected) (hst : step s = .next t) : t.ic.LinksConnected := by
  unfold step at hst
  split at hst
  · cases hst
    exact State.inActive_links h h.period
  · rename_i c rest _
    obtain ⟨u, hu, hl⟩ := exec_links (s := { s with pending := rest }) c h
    rw [hu] at hst
    cases hst
    exact hl

end

/-- Settles O9: of the intercom alone, each command that touches it keeps CONNECTED and LINKED together, and every other
command leaves both. -/
theorem connectedStaysLinked : Obligations.ConnectedStaysLinked := fun _ _ h hst =>
  connectedIsLinked_iff.2 (step_links (connectedIsLinked_iff.1 h) hst)

end Sys2Proof.Machine
end

section
/-! SUPPORT. What leaves the roof sign in the state its inputs give: changes of the blocks that are no input of it, records
that keep their shapes, and the derivation made again. -/

namespace Sys2Proof.Machine

section
variable {s t : State}

/-! ### Changes that leave the inputs of the sign (R140) -/

/-- What the sign controller holds of the sign state and of the inputs it is derived from. -/
def Sign.inputs (g : Sign) : SignState × Bool × Bool × Bool := (g.shown, g.latch, g.duty, g.shareAccept)

/-- R140: a sign follows still where the sign controller's lamps, flash, filter or alert tracker alone changed. -/
theorem SignFollows.onSign (h : SignFollows s) {f : Sign → Sign} (hf : (f s.sign).inputs = s.sign.inputs) :
    SignFollows (s.onSign f) := by
  simp only [Sign.inputs, Prod.mk.injEq] at hf
  obtain ⟨hshown, hlatch, hduty, hshare⟩ := hf
  have hderived : (s.onSign f).deriveSign = s.deriveSign := State.deriveSign_congr rfl rfl hlatch hduty hshare rfl
  exact hshown.trans (h.trans hderived.symm)

/-- R140: of the supply unit the sign reads the power state alone. -/
theorem SignFollows.onSupply (h : SignFollows s) {f : Supply → Supply} (hf : (f s.supply).power = s.supply.power) :
    SignFollows (s.onSupply f) := h.of_shapes rfl hf rfl fun _ => rfl

/-- R140: a sign follows still where the slots, the sign, the supply unit and the shift are as they were. -/
theorem SignFollows.of_blocks (h : SignFollows s) (hslots : t.slots = s.slots) (hsign : t.sign = s.sign)
    (hsupply : t.supply = s.supply) (hshift : t.shift = s.shift) : SignFollows t :=
  h.of_shapes hsign (congrArg Supply.power hsupply) hshift fun j => congrArg _ (State.slot_congr hslots j)

/-- R140: a record changed to one of the same shape leaves the sign as it follows. -/
theorem SignFollows.modSlot (h : SignFollows s) (i : Fin 4) {f : Trip → Trip} (hf : ∀ v, (f v).shape = v.shape) :
    SignFollows (s.modSlot i f) :=
  h.of_shapes rfl rfl rfl fun j => by
    rw [State.modSlot_slot]
    split
    · rename_i hj
      cases hv : s.slot i with
      | none => simp [hj, hv]
      | some v => simp [hj, hv, hf v]
    · rfl

/-- A change made slot by slot leaves the sign as it follows where each slot's does. -/
theorem SignFollows.forSlots (h : SignFollows s) {f : Fin 4 → State → State}
    (hf : ∀ i u, SignFollows u → SignFollows (f i u)) : SignFollows (forSlots f s) :=
  hf 3 _ (hf 2 _ (hf 1 _ (hf 0 s h)))

/-- The sign follows where it does after both branches of an event. -/
theorem signFollows_ite {c : Prop} [Decidable c] (hs : c → SignFollows s) (ht : ¬c → SignFollows t) :
    SignFollows (if c then s else t) := by
  split
  · rename_i hc; exact hs hc
  · rename_i hc; exact ht hc

/-! ### Commands and messages (R141) -/

/-- R141: a command that is taken derives the sign again, and one that is not taken is no input of it. -/
theorem takeCommand_follows (h : SignFollows s) {args : Nat} {body : State → Reply × State} :
    SignFollows (takeCommand args body s) :=
  signFollows_ite (fun _ => State.followSign_follows _) fun _ => h

/-- R141: a message that is taken derives the sign again. -/
theorem takeMessage_follows (h : SignFollows s) {body : State → State} : SignFollows (takeMessage body s) :=
  signFollows_ite (fun _ => State.followSign_follows _) fun _ => h

theorem State.takeUnlisted_follows (h : SignFollows s) (code : Byte) : SignFollows (s.takeUnlisted code) :=
  signFollows_ite (fun _ => h) fun _ => takeCommand_follows h

/-! ### The intercom (R124, R128) -/

/-- R124: a call button moves the intercom and may set CALL. -/
theorem State.buttonAction_follows (h : SignFollows s) (x : Station) (a : ButtonAction) :
    SignFollows (s.buttonAction x a) := by
  unfold State.buttonAction
  refine signFollows_ite (fun _ => ?_) fun _ => h
  cases a with
  | nothing => exact h
  | call => exact signFollows_ite (fun _ => h) fun _ => h
  | privacy => exact h

/-- R128: a missed call is counted by the shift, whose state it leaves. -/
theorem State.callExpires_follows (h : SignFollows s) (x : Station) : SignFollows (s.callExpires x) :=
  SignFollows.credit (s := s.onIc fun c => (c.leaveCalling x).makeIdle x) h fun _ => rfl

/-! ### The distance unit (R49 to R56) -/

/-- R51: a counted metre adds to the windows of the fares and to the counts of the shift. -/
theorem State.countMetre_follows (h : SignFollows s) : SignFollows s.countMetre := by
  have hslots : SignFollows (Machine.forSlots metreOnSlot s) :=
    h.forSlots fun i u hu => hu.modSlot i fun v => by split <;> rfl
  exact SignFollows.credit (s := ((Machine.forSlots metreOnSlot s).onDist _).count _) hslots fun _ => rfl

/-- R50, R52: an accepted edge raises a metre, counted or discarded, or none. -/
theorem State.edge_follows (h : SignFollows s) (k : Nat) : SignFollows (s.edge k) :=
  signFollows_ite
    (fun _ => signFollows_ite (fun _ => State.countMetre_follows (s := s.onDist _) h) fun _ => h) fun _ => h

/-- R55: a sensor fault marks the fares and counts in the shift. -/
theorem State.sensorFault_follows (h : SignFollows s) : SignFollows s.sensorFault := by
  have hslots : SignFollows (Machine.forSlots markFault s) :=
    h.forSlots fun i u hu => hu.modSlot i fun v => by split <;> rfl
  exact SignFollows.credit (s := (Machine.forSlots markFault s).onDist _) hslots fun _ => rfl

theorem State.sampleSensor_follows (h : SignFollows s) (high : Bool) : SignFollows (s.sampleSensor high) := by
  unfold State.sampleSensor
  split
  · exact signFollows_ite (fun _ => State.sensorFault_follows h) fun _ => h
  · exact h
  · exact signFollows_ite (fun _ => h) fun _ => h
  · exact h

/-! ### The store and the shift (R93, R95, R160) -/

/-- R93: after a commit write the schedule is evaluated, which leaves the shapes of the records. -/
theorem State.commitSucceeds_follows (h : SignFollows s) (w : StoreWrite) : SignFollows (s.commitSucceeds w) := by
  have hdone : SignFollows ((((s.onStore (·.commitDone w)).count committedTotals).raise .commitDone).onDist
      (fun d => d.take (w.image.getD s.store.active))) := h
  exact hdone.evaluate

/-- R141, R160: the end of a shift derives the sign again. -/
theorem State.closeShift_follows (h : SignFollows s) : SignFollows s.closeShift := by
  unfold State.closeShift
  split
  · exact h
  · exact signFollows_ite (fun _ => State.followSign_follows _) fun _ => h

/-! ### The supply unit (R170 to R174) -/

/-- R141: standby entry and a wake derive the sign again. -/
theorem State.enterStandby_follows (s : State) : SignFollows s.enterStandby := State.followSign_follows _

theorem State.wake_follows (s : State) : SignFollows s.wake := State.followSign_follows _

theorem State.wakeIfStandby_follows (h : SignFollows s) : SignFollows s.wakeIfStandby :=
  signFollows_ite (fun _ => s.wake_follows) fun _ => h

theorem State.sampleIgnition_follows (h : SignFollows s) (high : Bool) : SignFollows (s.sampleIgnition high) := by
  have hsampled : SignFollows (s.onSupply (·.sampleIgnition high)) := h.onSupply (s.supply.sampleIgnition_power high)
  exact signFollows_ite (fun _ => State.wakeIfStandby_follows hsampled) fun _ => hsampled

theorem State.countIgnitionOff_follows (h : SignFollows s) : SignFollows s.countIgnitionOff :=
  signFollows_ite (fun _ => State.enterStandby_follows _) fun _ => h.onSupply rfl

theorem State.honourStandby_follows (h : SignFollows s) : SignFollows s.honourStandby :=
  signFollows_ite (fun _ => signFollows_ite (fun _ => s.enterStandby_follows) fun _ => h.onSupply rfl) fun _ => h

/-! ### The lamps, the alert switch and the link reset (R142 to R147, R185) -/

/-- R142: the next period turns lamps and flash, and leaves the inputs of the sign. -/
theorem Sign.nextPeriod_inputs (g : Sign) : g.nextPeriod.inputs = g.inputs := by
  unfold Sign.nextPeriod
  split <;> rfl

/-- R145, R146: the samples of a period's end change the lamps, the LAMP event and the shift's count of faults. -/
theorem State.sampleLamps_follows (h : SignFollows s) (w : Lamps Bool) : SignFollows (s.sampleLamps w) := by
  have hlamps : SignFollows (s.onSign fun g => { g with lamps := g.sampled w }) := h.onSign rfl
  have hcounted := hlamps.credit
    (f := fun sh => { sh with lampFaults := satAdd sh.lampFaults (newFaults s.sign.lamps (s.sign.sampled w)) }) fun _ => rfl
  exact signFollows_ite (fun _ => hcounted.raise .lamp) fun _ => hcounted

/-- R147: a sample of ALSW moves the tracker, or raises the alert and derives the sign again. -/
theorem State.sampleAlert_follows (h : SignFollows s) (pressed : Bool) (w : Lamps Bool) :
    SignFollows (s.sampleAlert pressed w) :=
  signFollows_ite (fun _ => State.followSign_follows _) fun _ => h.onSign rfl

/-- R185: a link reset returns the filter setting, and drops a standby request. -/
theorem State.linkReset_follows (h : SignFollows s) : SignFollows s.linkReset := by
  have hfilter : SignFollows ((((s.onDash DashLink.reset).onStore Store.clearStaging).onIc Intercom.linkReset).onSign
      Sign.filterReset) :=
    SignFollows.onSign (s := ((s.onDash DashLink.reset).onStore Store.clearStaging).onIc Intercom.linkReset) h rfl
  exact hfilter.onSupply rfl

end

end Sys2Proof.Machine
end

section
/-! PROOFS. Every command and every step leaves the sign in the state its inputs give, and a sign that follows shows each of
its six states under the conditions of R140 (O10). -/

namespace Sys2Proof.Machine

/-! ### Every command and every step -/

section
variable {s t : State}

/-- R141: each command leaves the sign in the state its inputs give. -/
theorem exec_follows (c : Instr) (h : SignFollows s) : ∃ t, exec c s = .next t ∧ SignFollows t := by
  cases c with
  | startFare | pauseFare | resumeFare | stopFare | reopenFare | addExtra | cancelExtra | readTrip | releaseTrip
  | recordCash | declareUnpaid | setClock | adjustClock | readClock | loadStage | stageWrite | readItem | enableCommit
  | commit | standby | answer | openStation | closeStation | talkPress | talkRelease | signDuty | shareAccept | signSetup
  | clearAlert | shiftOpen | shiftBreak | shiftResume | shiftClose | readShift | releaseShift | readTotalizers
  | readStatus | readEvents | setEventMask | watch | identify =>
    exact ⟨_, rfl, takeCommand_follows h⟩
  | holdPlaced | holdReleased | payBegin | payResult | payVoid | fareQuery => exact ⟨_, rfl, takeMessage_follows h⟩
  | badCommand code => exact ⟨_, rfl, signFollows_ite (fun _ => h) fun _ => State.takeUnlisted_follows h code⟩
  | watchModeExit => exact ⟨_, rfl, State.takeUnlisted_follows h _⟩
  | dcsFalling =>
    exact ⟨_, rfl, signFollows_ite (fun _ => h) fun _ => signFollows_ite (fun _ => s.wake_follows) fun _ => h⟩
  | dcsRising clocked => exact ⟨_, rfl, State.honourStandby_follows (s := s.onDash (·.endFrame clocked)) h⟩
  | linkReset => exact ⟨_, rfl, signFollows_ite (fun _ => h) fun _ => State.linkReset_follows h⟩
  | drstRising => exact ⟨_, rfl, h⟩
  | selectorWrite | callChimeEnd | fareChimeEnd | connectionExpiry | talkExpiry | commitWriteFailure
  | mirrorWriteFailure => exact ⟨_, rfl, signFollows_ite (fun _ => h) fun _ => h⟩
  | partitionWriteDiscarded bytes =>
    exact ⟨_, rfl, signFollows_ite (fun _ => h.of_blocks (by simp) (by simp) (by simp) (by simp)) fun _ => h⟩
  | noticeRead part =>
    refine ⟨_, rfl, signFollows_ite (fun _ => ?_) fun _ => h⟩
    refine h.of_blocks ?_ ?_ ?_ ?_ <;> cases part <;> simp [State.readNotice]
  | secondRollover => exact ⟨_, rfl, State.followSign_follows _⟩
  | paymentTimerExpiry i =>
    refine ⟨_, rfl, ?_⟩
    split
    · exact h
    · exact signFollows_ite (fun _ => State.followSign_follows _) fun _ => h
  | callTimerExpiry x => exact ⟨_, rfl, signFollows_ite (fun _ => State.callExpires_follows h x) fun _ => h⟩
  | buttonSample x pressed =>
    exact ⟨_, rfl, signFollows_ite (fun _ => State.buttonAction_follows (s := s.onIc _) h x _) fun _ => h⟩
  | acceptedEdge => exact ⟨_, rfl, signFollows_ite (fun _ => State.edge_follows h _) fun _ => h⟩
  | dsensSample high => exact ⟨_, rfl, signFollows_ite (fun _ => h) fun _ => State.sampleSensor_follows h high⟩
  | svcSample high => exact ⟨_, rfl, signFollows_ite (fun _ => h) fun _ => signFollows_ite (fun _ => h) fun _ => h⟩
  | lampPeriodEnd w =>
    exact ⟨_, rfl, signFollows_ite
      (fun _ => (State.sampleLamps_follows h w).onSign (Sign.nextPeriod_inputs _)) fun _ => h⟩
  | alswSample pressed w =>
    exact ⟨_, rfl, signFollows_ite (fun _ => h) fun _ => State.sampleAlert_follows h pressed w⟩
  | ignSample high => exact ⟨_, rfl, signFollows_ite (fun _ => h) fun _ => State.sampleIgnition_follows h high⟩
  | ignitionOffTimerExpiry => exact ⟨_, rfl, signFollows_ite (fun _ => State.countIgnitionOff_follows h) fun _ => h⟩
  | supplyLoss => exact ⟨_, rfl, signFollows_ite (fun _ => h) fun _ => State.followSign_follows _⟩
  | supplyReturn => exact ⟨_, rfl, signFollows_ite (fun _ => (State.followSign_follows _).raise .supply) fun _ => h⟩
  | coldStart => exact ⟨_, rfl, signFollows_ite (fun _ => State.followSign_follows _) fun _ => h⟩
  | batteryDomainLoss => exact ⟨_, rfl, h.onSupply rfl⟩
  | commitWriteSuccess =>
    refine ⟨_, rfl, ?_⟩
    split
    · exact State.commitSucceeds_follows h _
    · exact h
  | mirrorWriteSuccess =>
    refine ⟨_, rfl, ?_⟩
    split
    · exact State.closeShift_follows (s := s.onStore _) h
    · exact h

/-- R141: each step leaves the sign in the state its inputs give. -/
theorem step_follows (h : SignFollows s) (hst : step s = .next t) : SignFollows t := by
  unfold step at hst
  split at hst
  · cases hst
    exact signFollows_ite (fun _ => h) fun _ => h
  · rename_i c rest _
    obtain ⟨u, hu, hf⟩ := exec_follows (s := { s with pending := rest }) c h
    rw [hu] at hst
    cases hst
    exact hf

end

/-! ### The six conditions (R140) -/

theorem State.shiftIsOpen_iff {s : State} : s.shiftIsOpen = true ↔ ∃ sh, s.shift = some sh ∧ sh.state = .opened := by
  cases h : s.shift <;> simp [State.shiftIsOpen, h]

theorem State.anyFree_iff {s : State} : s.anyFree = true ↔ ∃ i, s.slot i = none := by
  simp [State.anyFree, Four.list, State.slot, Fin.exists_fin_succ, Four.get]

theorem State.allShareOrIdle_iff {s : State} : s.slots.list.all sharesOrIdle = true
    ↔ ∀ i t, s.slot i = some t → t.state.isActive = true → t.share = true := by
  have hslots : s.slots.list.all sharesOrIdle = true ↔ ∀ i, sharesOrIdle (s.slot i) = true := by
    simp [Four.list, State.slot, Fin.forall_fin_succ, Four.get]
  rw [hslots]
  refine forall_congr' fun i => ?_
  cases s.slot i with
  | none => simp [sharesOrIdle]
  | some t => cases ht : t.state.isActive <;> simp [sharesOrIdle, ht]

/-- A slot that is FREE holds no active fare. -/
theorem State.activeCount_lt {s : State} (h : s.anyFree = true) : s.activeCount < 4 := by
  obtain ⟨o, ho, hfree⟩ := List.any_eq_true.1 h
  have hidle : ¬ activeSlot o = true := by
    cases o with
    | none => simp [activeSlot]
    | some t => simp at hfree
  have hle : s.slots.list.countP activeSlot ≤ s.slots.list.length := List.countP_le_length
  have hne : s.slots.list.countP activeSlot ≠ s.slots.list.length := fun he =>
    hidle (List.countP_eq_length.1 he o ho)
  exact lt_of_le_of_ne hle hne

/-- R140: the sign is SHARE among its last two states when SHARE ACCEPT and SIGN DUTY are on, every active fare shares and
a slot is FREE; that fewer than four fares are active follows from the FREE slot. -/
theorem State.sharesOn_iff {s : State} :
    (s.sign.shareAccept && s.sign.duty && s.slots.list.all sharesOrIdle && s.activeCount < 4 && s.anyFree) = true
      ↔ s.sign.shareAccept = true ∧ s.sign.duty = true
        ∧ (∀ i t, s.slot i = some t → t.state.isActive = true → t.share = true) ∧ ∃ i, s.slot i = none := by
  rw [← State.allShareOrIdle_iff, ← State.anyFree_iff]
  simp only [Bool.and_eq_true, decide_eq_true_eq, and_assoc]
  exact ⟨fun ⟨ha, hd, hs, _, hf⟩ => ⟨ha, hd, hs, hf⟩,
    fun ⟨ha, hd, hs, hf⟩ => ⟨ha, hd, hs, State.activeCount_lt hf, hf⟩⟩

/-- R140: the sign state by the first of five conditions that holds, HIRED where none does. -/
theorem State.deriveSign_cases (s : State) {onDuty hired shareable : Prop} [Decidable onDuty] [Decidable hired]
    [Decidable shareable]
    (hduty : onDuty ↔ (∃ sh, s.shift = some sh ∧ sh.state = .opened)
      ∧ (s.sign.duty = true ∨ ∃ i t, s.slot i = some t ∧ t.state.isActive = true))
    (hhired : hired ↔ ∃ i t, s.slot i = some t ∧ t.state.isActive = true)
    (hshare : shareable ↔ s.sign.shareAccept = true ∧ s.sign.duty = true
      ∧ (∀ i t, s.slot i = some t → t.state.isActive = true → t.share = true) ∧ ∃ i, s.slot i = none) :
    s.deriveSign =
      if s.supply.power ≠ .active then .blank else if s.sign.latch = true then .alert else if ¬onDuty then .offDuty
      else if ¬hired then .free else if shareable then .share else .hired := by
  rw [← State.anyActive_eq_true] at hhired
  rw [← State.anyActive_eq_true, ← State.shiftIsOpen_iff] at hduty
  rw [← State.sharesOn_iff] at hshare
  have hoff : (!s.shiftIsOpen || (!s.sign.duty && !s.anyActive)) = true ↔ ¬onDuty := by
    simp only [hduty, Bool.or_eq_true, Bool.and_eq_true, Bool.not_eq_true', not_and_or, not_or, Bool.not_eq_true]
  have hfree : (!s.anyActive) = true ↔ ¬hired := by
    rw [hhired]
    simp
  simp only [State.deriveSign, hoff, hfree, ← hshare]

/-- Settles O10: each command derives the sign again or leaves its inputs; and the conditions of R140, each in its turn. -/
theorem signStaysDerived : Obligations.SignStaysDerived := by
  refine ⟨fun _ _ h hst => step_follows h hst, fun s awake onDuty hired shareable h hawake hduty hhired hshare => ?_⟩
  classical
  have hshown : s.sign.shown = _ := h.trans (s.deriveSign_cases hduty hhired hshare)
  rw [hshown, hawake]
  by_cases hp : s.supply.power = .active
  · by_cases hl : s.sign.latch = true
    · simp [hp, hl]
    · by_cases hd : onDuty
      · by_cases hh : hired
        · by_cases hs : shareable <;> simp [hp, hl, hd, hh, hs]
        · simp [hp, hl, hd, hh]
      · simp [hp, hl, hd]
  · simp [hp]

end Sys2Proof.Machine
end

section
/-! PROOFS. The lamps and their periods: what a sample makes of a lamp, and the end of a period in each sign state (O46). -/

namespace Sys2Proof.Machine

/-! ### The samples of a period's end (R145, R146) -/

/-- R145, R146: the samples of a period's end, with the faults counted by the shift and a change of health in LAMP. -/
theorem State.sampleLamps_eq {w : Lamps Bool} {s : State} {after : Lamps Lamp} (h : after = s.sign.sampled w) :
    s.sampleLamps w =
      { s with
        sign := { s.sign with lamps := after }
        shift := s.shift.map (fun sh =>
          { sh with lampFaults := satAdd sh.lampFaults (newFaults s.sign.lamps after) })
        dash := if healthChanged s.sign.lamps after then s.dash.raise .lamp else s.dash } := by
  subst h
  unfold State.sampleLamps State.raiseIf
  split <;> rfl

/-- R145: the end of a period in ACTIVE is the samples, then the next period of the sign as they leave it. -/
theorem exec_lampPeriodEnd {w : Lamps Bool} {s : State} {after : Lamps Lamp} {g : Sign} (hp : s.supply.power = .active)
    (ha : after = s.sign.sampled w) (hg : Sign.nextPeriod { s.sign with lamps := after } = g) :
    exec (.lampPeriodEnd w) s = .next
      { s with
        sign := g
        shift := s.shift.map (fun sh =>
          { sh with lampFaults := satAdd sh.lampFaults (newFaults s.sign.lamps after) })
        dash := if healthChanged s.sign.lamps after then s.dash.raise .lamp else s.dash } := by
  refine congrArg Host.Outcome.next ((if_pos hp).trans ?_)
  rw [State.sampleLamps_eq ha, ← hg]
  rfl

/-- R142: in a steady sign the lamps driven are lit in the next period as well. -/
theorem Sign.nextPeriod_steady {g : Sign} (h : g.shown ≠ .alert) :
    g.nextPeriod = { g with lamps := (driven g.shown).zip Lamp.newPeriod g.lamps } := if_neg h

/-- R142: in ALERT the four lamps turn together. -/
theorem Sign.nextPeriod_alert {g : Sign} (h : g.shown = .alert) :
    g.nextPeriod = { g with flashLit := !g.flashLit, lamps := g.lamps.map (Lamp.newPeriod (!g.flashLit)) } := if_pos h

/-! ### The lamps that are lit (R142) -/

theorem lit_alert (flashLit : Bool) : lit .alert flashLit = ⟨flashLit, flashLit, flashLit, flashLit⟩ := rfl

theorem lit_steady {g : SignState} (h : g ≠ .alert) (flashLit : Bool) : lit g flashLit = driven g := by
  cases g with
  | alert => exact absurd rfl h
  | blank | offDuty | free | share | hired => rfl

/-! ### One lamp's sample (R145) -/

section
variable {n : Nat} {l : Lamp}

theorem Lamp.sample_healthy_inside (h : l.faulted = false) : l.sample n true = { l with outRun := 0 } := by
  simp [Lamp.sample, h]

theorem Lamp.sample_healthy_outside (h : l.faulted = false) :
    l.sample n false = if n ≤ l.outRun + 1 then { l with faulted := true, outRun := 0, inRun := 0 }
      else { l with outRun := l.outRun + 1 } := by
  simp [Lamp.sample, h]

theorem Lamp.sample_faulted_outside (h : l.faulted = true) : l.sample n false = { l with inRun := 0 } := by
  simp [Lamp.sample, h]

theorem Lamp.sample_faulted_inside (h : l.faulted = true) :
    l.sample n true = if n ≤ l.inRun + 1 then { l with faulted := false, outRun := 0, inRun := 0 }
      else { l with inRun := l.inRun + 1 } := by
  simp [Lamp.sample, h]

end

/-- Settles O46: the end of a period in a steady sign and in ALERT, the lamps lit, and the table of one lamp's sample. -/
theorem lampsAreJudgedWhileLit : Obligations.LampsAreJudgedWhileLit := by
  refine ⟨fun w s after hp hs ha => ?_, fun w s after hp hs ha => ?_,
    fun w s hp => congrArg Host.Outcome.next (if_neg hp),
    fun s => ⟨fun h => ?_, fun h => lit_steady h _⟩, fun n l => ⟨Lamp.sample_healthy_inside, fun h hn => ?_,
      fun h hn => ?_, Lamp.sample_faulted_outside, fun h hn => ?_, fun h hn => ?_⟩⟩
  · exact exec_lampPeriodEnd hp ha (Sign.nextPeriod_steady (g := { s.sign with lamps := after }) hs)
  · exact exec_lampPeriodEnd hp ha (Sign.nextPeriod_alert (g := { s.sign with lamps := after }) hs)
  · rw [State.litLamps, h, lit_alert]
  · rw [Lamp.sample_healthy_outside h, if_neg (Nat.not_le.2 hn)]
  · rw [Lamp.sample_healthy_outside h, if_pos hn]
  · rw [Lamp.sample_faulted_inside h, if_neg (Nat.not_le.2 hn)]
  · rw [Lamp.sample_faulted_inside h, if_pos hn]

end Sys2Proof.Machine
end

section
/-! PROOFS. The sign's commands and the samples of the alert switch in each power state (O45). -/

namespace Sys2Proof.Machine

/-! ### The sign's commands (R143, R144, R148) -/

section
variable {s : State} {b : Byte} {on : Bool}

theorem signDutyBody_ok (h : switchArg b = some on) :
    signDutyBody b s = okSign { s with sign := { s.sign with duty := on } } := by
  simp only [signDutyBody, h]
  rfl

theorem shareAcceptBody_ok (h : switchArg b = some on) :
    shareAcceptBody b s = okSign { s with sign := { s.sign with shareAccept := on } } := by
  simp only [shareAcceptBody, h]
  rfl

theorem signSetupBody_ok (h : b = 2 ∨ b = 4 ∨ b = 8) :
    signSetupBody b s = ok [b] (s.onSign (fun g => { g.countsClear with filter := b.toNat })) := if_pos h

theorem clearAlertBody_ok (h : s.sign.tracker = .up) :
    clearAlertBody s = okSign { s with sign := { s.sign with latch := false } } := if_pos h

/-- R143, R148: a served command that changes the sign's inputs answers with the sign state that they give. -/
theorem takeCommand_okSign {args : Nat} {body : State → Reply × State} {v u : State} (h : Serving s)
    (hb : body s = okSign v) (hu : u = v.followSign) :
    takeCommand args body s = u.reply args .ok [u.sign.shown.code] := by
  subst hu
  exact takeCommand_followed h hb v.followSign_follows

end

/-! ### The samples of the alert switch (R147) -/

section
variable {s : State} {w : Lamps Bool}

/-- R147: a sample that does not raise the alert moves the tracker alone. -/
theorem exec_alswSample_tracks {pressed : Bool} {a : AlertTracker} (hp : s.supply.power ≠ .holdover)
    (ht : (trackAlert s.sign.tracker pressed).1 = a)
    (hr : (trackAlert s.sign.tracker pressed).2 = true → s.sign.latch = true) :
    exec (.alswSample pressed w) s = .next { s with sign := { s.sign with tracker := a } } := by
  have hquiet : ¬ ((trackAlert s.sign.tracker pressed).2 && !s.sign.latch) = true := by simpa using hr
  subst ht
  exact congrArg Host.Outcome.next ((if_neg hp).trans (if_neg hquiet))

/-- R147: a released sample returns the tracker to UP from anywhere, and raises nothing. -/
theorem trackAlert_released (a : AlertTracker) : trackAlert a false = (.up, false) := by cases a <;> rfl

/-- R147: a pressed sample below the sixtieth is counted. -/
theorem trackAlert_counts {n : Nat} (h : n < 59) : trackAlert (.down n) true = (.down (n + 1), false) := if_pos h

/-- R147: the sixtieth pressed sample with the latch clear holds the tracker and raises the alert. -/
theorem exec_alswSample_raises (hp : s.supply.power ≠ .holdover) (ht : s.sign.tracker = .down 59)
    (hl : s.sign.latch = false) :
    exec (.alswSample true w) s
      = .next (State.raiseAlert w { s with sign := { s.sign with tracker := .held } }) := by
  have hheld : (trackAlert s.sign.tracker true).1 = .held := by rw [ht]; rfl
  have hraised : ((trackAlert s.sign.tracker true).2 && !s.sign.latch) = true := by rw [ht, hl]; rfl
  refine congrArg Host.Outcome.next ((if_neg hp).trans ((if_pos hraised).trans ?_))
  rw [← hheld]
  rfl

/-! ### The alert in ACTIVE (R142, R145, R147) -/

/-- R140: in ACTIVE a set latch gives ALERT. -/
theorem State.deriveSign_alert (hp : s.supply.power = .active) (hl : s.sign.latch = true) : s.deriveSign = .alert := by
  simp [State.deriveSign, hp, hl]

/-- R140: with the latch clear a sign that follows shows no ALERT. -/
theorem SignFollows.ne_alert (h : SignFollows s) (hl : s.sign.latch = false) : s.sign.shown ≠ .alert := by
  rw [h, State.deriveSign, hl]
  repeat' split
  all_goals simp_all

/-- R142: no lamp stops being driven at the entry into ALERT. -/
theorem stopped_alert (g : SignState) : stopped g .alert = ⟨false, false, false, false⟩ := by
  simp [stopped, driven, Lamps.zip]

/-- R142: at the entry into ALERT a new period begins with all four lamps lit. -/
theorem Sign.change_alert (g : Sign) :
    g.change .alert = { g with shown := .alert, flashLit := true, lamps := g.lamps.map (Lamp.newPeriod true) } := by
  rw [Sign.change, if_pos rfl, stopped_alert]
  rfl

/-- R141, R142: a latch set in ACTIVE takes the sign into ALERT. -/
theorem State.followSign_alert (hp : s.supply.power = .active) (hl : s.sign.latch = true) (hs : s.sign.shown ≠ .alert) :
    s.followSign = s.onSign
      (fun g => { g with shown := .alert, flashLit := true, lamps := g.lamps.map (Lamp.newPeriod true) }) := by
  rw [State.followSign, State.deriveSign_alert hp hl, if_neg hs.symm, State.onSign, Sign.change_alert]
  rfl

/-- R142, R147: in ACTIVE the latch set takes the sign into ALERT, with its event and the shift's alert count. -/
theorem State.latchAlert_active (hp : s.supply.power = .active) (hs : s.sign.shown ≠ .alert) :
    s.latchAlert.wakeIfStandby.followSign =
      { s with
        sign := { s.sign with
          latch := true, shown := .alert, flashLit := true, lamps := s.sign.lamps.map (Lamp.newPeriod true) }
        shift := s.shift.map (fun sh => { sh with alerts := satAdd sh.alerts 1 })
        dash := s.dash.raise .alert } := by
  have hawake : s.latchAlert.supply.power ≠ .standby := by simp [State.latchAlert, hp]
  rw [State.wakeIfStandby, if_neg hawake, State.followSign_alert (s := s.latchAlert) hp rfl hs]
  rfl

/-- R145, R147: in ACTIVE an alert is raised with the samples of the period that it ends. -/
theorem State.raiseAlert_active {after : Lamps Lamp} (h : SignFollows s) (hp : s.supply.power = .active)
    (hl : s.sign.latch = false) (ha : after = s.sign.sampled w) :
    s.raiseAlert w =
      { s with
        sign := { s.sign with
          latch := true, shown := .alert, flashLit := true
          lamps := after.map (fun l => { l with whole := true }) }
        shift := s.shift.map (fun sh =>
          { sh with
            lampFaults := satAdd sh.lampFaults (newFaults s.sign.lamps after), alerts := satAdd sh.alerts 1 })
        dash := (if healthChanged s.sign.lamps after then s.dash.raise .lamp else s.dash).raise .alert } := by
  have hended : s.endPeriodEarly w = s.sampleLamps w := if_pos hp
  have hshown : (s.sampleLamps w).sign.shown ≠ .alert := by
    rw [State.sampleLamps_eq ha]
    exact h.ne_alert hl
  rw [State.raiseAlert, hended, State.latchAlert_active (by rwa [State.sampleLamps_supply]) hshown,
    State.sampleLamps_eq ha]
  simp only [Option.map_map]
  rfl

/-! ### The alert in STANDBY (R147, R174) -/

/-- R174: a wake with the latch set shows ALERT from the wake on, the lamps lit with their counts at 0. -/
theorem State.wake_sign_latched (hl : s.sign.latch = true) (hs : s.sign.shown ≠ .alert) :
    s.wake.sign = { s.sign with
      shown := .alert, flashLit := true, lamps := (s.sign.lamps.map Lamp.countsClear).map (Lamp.newPeriod true) } := by
  rw [State.wake, State.followSign_alert (by simp) (by simpa [Sign.countsClear] using hl)
    (by simpa [Sign.countsClear] using hs)]
  simp [Sign.countsClear]

@[simp] theorem State.wake_supply (s : State) : s.wake.supply = { s.supply with power := .active, offTimer := 0 } := by
  simp [State.wake]

/-- R147, R174: the part as an alert that wakes it leaves it: ACTIVE, at ALERT, and ALERT pending. -/
theorem State.latchAlert_wake (hs : s.sign.shown ≠ .alert) :
    s.latchAlert.wake.supply = { s.supply with power := .active, offTimer := 0 }
      ∧ s.latchAlert.wake.sign.shown = .alert ∧ s.latchAlert.wake.sign.flashLit = true
      ∧ s.latchAlert.wake.sign.latch = true ∧ s.latchAlert.wake.sign.tracker = s.sign.tracker
      ∧ (∀ l ∈ s.latchAlert.wake.sign.lamps.list, l.outRun = 0 ∧ l.inRun = 0 ∧ l.whole = true)
      ∧ s.latchAlert.wake.dash.isPending .alert = true := by
  rw [State.wake_sign_latched (s := s.latchAlert) rfl hs, State.wake_dash, State.wake_supply]
  refine ⟨rfl, rfl, rfl, rfl, rfl, ?_, DashLink.isPending_raise_of (.inr rfl)⟩
  simp [Lamps.list, Lamps.map, Lamp.newPeriod, Lamp.countsClear]

/-- R147, R174: in STANDBY an alert raised wakes the part. -/
theorem State.raiseAlert_standby (hp : s.supply.power = .standby) : s.raiseAlert w = s.latchAlert.wake := by
  have hended : s.endPeriodEarly w = s := if_neg (by simp [hp])
  have hwoken : s.latchAlert.wakeIfStandby = s.latchAlert.wake := if_pos hp
  rw [State.raiseAlert, hended, hwoken, State.followSign_of_follows s.latchAlert.wake_follows]

end

/-- Settles O45: the sign's commands, the tracker's table, and the alert raised in ACTIVE and in STANDBY. -/
theorem signAndAlertAreSet : Obligations.SignAndAlertAreSet := by
  refine ⟨fun b on s u h hb => ⟨fun hu => ?_, fun hu => ?_⟩,
    fun s h => ⟨fun b hb => ?_, fun u ht hu => ?_, fun ht => ?_⟩,
    fun pressed w s hp => congrArg Host.Outcome.next (if_pos hp),
    fun w s hp => ⟨fun ht => ?_, fun n hn ht => ?_, fun ht hl => ?_, fun ht => ?_, ?_⟩,
    fun w s after h ht hl ha => ?_, fun w s hp hf ht hl => ?_⟩
  · exact congrArg Host.Outcome.next (takeCommand_okSign h (signDutyBody_ok hb) hu)
  · exact congrArg Host.Outcome.next (takeCommand_okSign h (shareAcceptBody_ok hb) hu)
  · exact congrArg Host.Outcome.next (takeCommand_followed h (signSetupBody_ok hb) 
      (h.1.2.onSign (f := fun g => { g.countsClear with filter := b.toNat }) rfl))
  · exact congrArg Host.Outcome.next (takeCommand_okSign h (clearAlertBody_ok ht) hu)
  · exact congrArg Host.Outcome.next (takeCommand_read h (if_neg ht))
  · exact exec_alswSample_tracks hp (by rw [ht]; rfl) (by rw [ht]; nofun)
  · exact exec_alswSample_tracks hp (by rw [ht, trackAlert_counts hn]) (by rw [ht, trackAlert_counts hn]; nofun)
  · exact exec_alswSample_tracks hp (by rw [ht]; rfl) fun _ => hl
  · rw [exec_alswSample_tracks hp (a := .held) (by rw [ht]; rfl) (by rw [ht]; nofun), ← ht]
  · exact exec_alswSample_tracks hp (by rw [trackAlert_released]) (by rw [trackAlert_released]; nofun)
  · rw [exec_alswSample_raises (by simp [h.1]) ht hl]
    exact congrArg Host.Outcome.next (State.raiseAlert_active (s := { s with sign := { s.sign with tracker := .held } })
      (h.2.onSign (f := fun g => { g with tracker := .held }) rfl) h.1 hl ha)
  · have hblank : s.sign.shown ≠ .alert := hf.ne_alert hl
    have hraised := State.raiseAlert_standby (s := { s with sign := { s.sign with tracker := .held } }) (w := w) hp
    exact ⟨_, (exec_alswSample_raises (by simp [hp]) ht hl).trans (congrArg Host.Outcome.next hraised), rfl,
      State.latchAlert_wake (s := { s with sign := { s.sign with tracker := .held } }) hblank⟩

end Sys2Proof.Machine
end

section
/-! PROOFS. SHIFT OPEN and RELEASE SHIFT (O39, O40); breaks, the close and the break second of a shift (O41). -/

namespace Sys2Proof.Machine

/-! ### SHIFT OPEN (R154, R155) -/

theorem within_iff {low high v : Nat} : within low high v = true ↔ low ≤ v ∧ v ≤ high := by simp [within]

section
variable {driver : Nat} {s : State}

/-- R154: a driver number outside 1 to 999999. -/
theorem shiftOpenBody_badArg (h : driver = 0 ∨ 999999 < driver) : shiftOpenBody driver s = refuse 9 .badArg s := by
  have hr : ¬ within 1 999999 driver = true := by rw [within_iff]; omega
  simp [shiftOpenBody, hr]

/-- R154: under a driver number in range the shift, the previous record and the clock are checked, in this order. -/
theorem shiftOpenBody_inRange (h1 : 1 ≤ driver) (h2 : driver ≤ 999999) : shiftOpenBody driver s =
    if s.shift.isSome then refuse 9 .badState s
    else if s.prev.isSome then refuse 9 .uncollected s
    else if !s.cal.clockSet then refuse 9 .clockUnset s
    else ok (le2 s.nextShiftNumber ++ stampBytes s.cal.time) (s.openShift driver) := by
  have hr : within 1 999999 driver = true := within_iff.2 ⟨h1, h2⟩
  simp [shiftOpenBody, hr]

/-- R154, R163: with the previous record collected no check answers UNCOLLECTED. -/
theorem shiftOpenBody_collected (h : s.prev = none) : (shiftOpenBody driver s).1.result ≠ .uncollected := by
  unfold shiftOpenBody
  split_ifs with hrange hshift hprev hclock
  · nofun
  · nofun
  · simp [h] at hprev
  · nofun
  · nofun

end

/-- Settles O39: the driver number, then the checks in their order, each after those before it. -/
theorem shiftOpensUnderItsNumber : Obligations.ShiftOpensUnderItsNumber := by
  intro driver n s h hn
  refine ⟨fun hd => congrArg _ (takeCommand_read h (shiftOpenBody_badArg hd)), fun h1 h2 => ?_⟩
  have hb := shiftOpenBody_inRange (s := s) h1 h2
  refine ⟨fun hs => ?_, fun hs hp => ?_, fun hs hp hc => ?_, fun hs hp hc => ?_⟩
  · exact congrArg _ (takeCommand_read h (hb.trans (if_pos (Option.isSome_iff_ne_none.2 hs))))
  · exact congrArg _ (takeCommand_read h (hb.trans (by simp [hs, Option.isSome_iff_ne_none.2 hp, refuse])))
  · exact congrArg _ (takeCommand_read h (hb.trans (by simp [hs, hp, hc, refuse])))
  · have hnumber : s.nextShiftNumber = n := hn.symm
    subst hnumber
    have hbody : shiftOpenBody driver.toNat s
        = ok (le2 s.nextShiftNumber ++ stampBytes s.cal.time) (s.openShift driver.toNat) :=
      hb.trans (by simp [hs, hp, hc])
    exact congrArg Host.Outcome.next (takeCommand_served h hbody)

/-! ### RELEASE SHIFT (R163) -/

/-- R163: with a previous record the number alone decides. -/
theorem releaseShiftBody_some {number : Nat} {s : State} {sh : Shift} (h : s.prev = some sh) :
    releaseShiftBody number s = if sh.number ≠ number then refuse 0 .mismatch s else ok [] (s.putPrev none) := by
  simp only [releaseShiftBody, h]

/-- R179: the frame of a served command holds the answer of its body. -/
theorem takeCommand_frame {args : Nat} {body : State → Reply × State} {s : State} (h : Serving s) :
    (takeCommand args body s).dash.frame =
      .answered args (body s).1.result (body s).1.response (body s).1.atEnd := by
  rw [takeCommand, if_pos h.serves, State.followSign_dash]
  rfl

/-- Settles O40: the number compared with a previous record, and the checks of SHIFT OPEN where there is none. -/
theorem releaseShiftCollects : Obligations.ReleaseShiftCollects := by
  intro number s h
  refine ⟨fun hp => ?_, fun sh hp hn => ?_, fun sh hp hn => ?_, fun hp driver t ht a r e hf => ?_⟩
  · exact congrArg _ (takeCommand_read h (by simp [releaseShiftBody, hp, refuse, zeros]))
  · exact congrArg _ (takeCommand_read h ((releaseShiftBody_some hp).trans (if_pos hn)))
  · have hsign : SignFollows (s.putPrev none) := h.1.2
    have hbody := (releaseShiftBody_some hp).trans (if_neg (not_not.2 hn))
    exact congrArg Host.Outcome.next (takeCommand_followed h hbody hsign)
  · have htaken : takeCommand 4 (shiftOpenBody driver.toNat) s = t := Host.Outcome.next.inj ht
    have hframe := takeCommand_frame (args := 4) (body := shiftOpenBody driver.toNat) h
    rw [htaken, hf] at hframe
    obtain ⟨-, hresult, -, -⟩ := FrameState.answered.inj hframe
    exact shiftOpenBody_collected hp hresult.symm

/-! ### Breaks and the close (R156, R158) -/

section
variable {s : State} {sh : Shift}

theorem State.setShiftState_some (h : s.shift = some sh) (st : ShiftState) :
    s.setShiftState st = { s with shift := some { sh with state := st } } := by
  rw [State.setShiftState, State.credit, h]
  rfl

/-- R156: SHIFT BREAK of an OPEN shift turns on the running and paused fares. -/
theorem shiftBreakBody_opened (h : s.shift = some sh) (ho : sh.state = .opened) :
    shiftBreakBody s = if s.anyActive then refuse 1 .openTrips s
      else ok [2] { s with shift := some { sh with state := .onBreak } } := by
  simp only [shiftBreakBody, h, ho, ← State.setShiftState_some h]
  rfl

/-- R156: SHIFT RESUME of a shift in BREAK. -/
theorem shiftResumeBody_onBreak (h : s.shift = some sh) (hb : sh.state = .onBreak) :
    shiftResumeBody s = ok [1] { s with shift := some { sh with state := .opened } } := by
  simp only [shiftResumeBody, h, hb, ← State.setShiftState_some h]
  rfl

/-- R158: SHIFT CLOSE past its checks: CLOSING, and the mirror write with the live totalizers. -/
theorem shiftCloseBody_accepted (h : s.shift = some sh) (hc : sh.state ≠ .closing) (hi : s.store.state = .idle)
    (hp : s.prev = none) (hf : ∀ i, s.slot i = none) :
    shiftCloseBody s = ok (le2 sh.number)
      { s with shift := some { sh with state := .closing }, store := s.store.beginMirror s.tot } := by
  have hclose : s.beginClose =
      { s with shift := some { sh with state := .closing }, store := s.store.beginMirror s.tot } := by
    rw [State.beginClose, State.setShiftState_some h]
    rfl
  simp [shiftCloseBody, h, hc, Store.not_busy hi, hp, State.anyOccupied_eq_false.2 hf, hclose]

/-- R157: the break second of a rollover is that of the current record. -/
theorem State.breakTick_shift (h : s.shift = some sh) : s.breakTick.shift = some sh.breakSecond := by
  rw [State.breakTick, State.credit_shift, h]
  rfl

end

/-- Settles O41: each accepted command's body, its state changed and the sign derived again, and the break second. -/
theorem shiftBreaksAndCloses : Obligations.ShiftBreaksAndCloses := by
  intro sh s hs
  refine ⟨fun h => ⟨fun ho ha => ?_, fun ho ha => ?_, fun hb => ?_, fun hc hi hp hf => ?_⟩, State.breakTick_shift hs⟩
  · have hbody := (shiftBreakBody_opened hs ho).trans (if_neg (by simp [ha]))
    exact congrArg Host.Outcome.next (takeCommand_served h hbody)
  · exact congrArg _ (takeCommand_read h ((shiftBreakBody_opened hs ho).trans (if_pos ha)))
  · exact congrArg Host.Outcome.next (takeCommand_served h (shiftResumeBody_onBreak hs hb))
  · exact congrArg Host.Outcome.next (takeCommand_served h (shiftCloseBody_accepted hs hc hi hp hf))

end Sys2Proof.Machine
end

section
/-! PROOFS. The beginnings and the ends of the dashboard frames, watch mode and the unlisted bytes (O52). -/

namespace Sys2Proof.Machine

/-! ### DCS falling (R174, R179, R184) -/

section
variable {s : State}

/-- R179, R185: DCS falling is looked at with DRST high, the part powered and no frame in progress. -/
theorem State.ignoresFalling_eq_false (hd : s.dash.drstLow = false) (hp : s.supply.power ≠ .holdover)
    (hf : s.dash.frame = .idle) : ¬ s.ignoresFalling = true := by simp [State.ignoresFalling, hd, hp, hf]

/-- R184: in ACTIVE DCS falling begins a frame. -/
theorem exec_dcsFalling_active (hd : s.dash.drstLow = false) (hp : s.supply.power = .active)
    (hf : s.dash.frame = .idle) : exec .dcsFalling s = .next (s.putFrame s.openFrame) :=
  congrArg Host.Outcome.next
    ((if_neg (State.ignoresFalling_eq_false hd (by simp [hp]) hf)).trans (if_neg (by simp [hp])))

/-- R174: in STANDBY DCS falling wakes the part, with its frame discarded. -/
theorem exec_dcsFalling_standby (hd : s.dash.drstLow = false) (hp : s.supply.power = .standby)
    (hf : s.dash.frame = .idle) : exec .dcsFalling s = .next (s.wake.putFrame .discarded) :=
  congrArg Host.Outcome.next ((if_neg (State.ignoresFalling_eq_false hd (by simp [hp]) hf)).trans (if_pos hp))

/-! ### DCS rising (R179, R184) -/

/-- R179: the end of a frame that holds no answer. -/
theorem DashLink.endFrame_unanswered {d : DashLink} (h : ∀ a r bytes e, d.frame ≠ .answered a r bytes e) (n : Nat) :
    d.endFrame n = { d with frame := .idle, counted := 0 } := by
  unfold DashLink.endFrame
  split
  next a r bytes e hf => exact absurd hf (h a r bytes e)
  next => rfl

/-- R179: the end of a frame brings what its answer holds for it. -/
theorem DashLink.endFrame_answered {d : DashLink} {a : Nat} {r : ResultCode} {bytes : List Byte} {e : FrameEnd}
    (h : d.frame = .answered a r bytes e) (n : Nat) :
    d.endFrame n = { d.finish (max d.counted n) e with frame := .idle, counted := 0 } := by
  simp only [DashLink.endFrame, h]

/-- R172: with no standby request pending DCS rising ends the frame alone. -/
theorem exec_dcsRising_plain (h : s.supply.standbyRequest = false) (n : Nat) :
    exec (.dcsRising n) s = .next { s with dash := s.dash.endFrame n } :=
  congrArg Host.Outcome.next (if_neg (by simp [State.onDash, h]))

/-! ### The bytes of no command (R179, R184) -/

/-- R179: an unknown code is one outside the command table. -/
theorem exec_badCommand_unlisted {code : Byte} (h : (Instr.badCommand code).wellFormed = true) :
    exec (.badCommand code) s = .next (s.takeUnlisted code) := by
  have hcode : code ∉ commandCodes := by simpa [Instr.wellFormed] using h
  exact congrArg Host.Outcome.next (if_neg hcode)

/-- R184: each row of the byte 0xA5 takes it as that byte. -/
theorem exec_watchExit {i : Instr} (h : i = .watchModeExit ∨ i = .badCommand 0xA5) :
    exec i s = .next (s.takeUnlisted watchExit) := by
  rcases h with rfl | rfl
  · rfl
  · exact exec_badCommand_unlisted (by decide)

/-- R184: a part that shows a watch frame serves no command. -/
theorem State.serves_watching {snapshot : List Byte} (h : s.dash.frame = .watching snapshot) : ¬ s.serves = true := by
  simp [State.serves, h]

/-- R184: 0xA5 as the first byte of a watch frame ends watch mode. -/
theorem State.takeUnlisted_exits {snapshot : List Byte} (h : s.dash.frame = .watching snapshot)
    (hc : s.dash.counted = 0) :
    s.takeUnlisted watchExit
      = { s with dash := { s.dash with frame := .watchEnded snapshot, watch := none, counted := 1 } } := by
  have hfirst : s.dash.awaitsExit = true := by simp [DashLink.awaitsExit, h, hc]
  rw [State.takeUnlisted, if_pos ⟨rfl, hfirst⟩, State.onDash, DashLink.exitWatch, h]

/-- R184: any other unlisted byte of a watch frame, and 0xA5 after the first, is only counted. -/
theorem State.takeUnlisted_counts {snapshot : List Byte} {code : Byte} (h : s.dash.frame = .watching snapshot)
    (hc : code ≠ watchExit ∨ s.dash.counted ≠ 0) :
    s.takeUnlisted code = { s with dash := { s.dash with counted := s.dash.counted + 1 } } := by
  have hnot : ¬ (code = watchExit ∧ s.dash.awaitsExit = true) := by
    rintro ⟨hcode, hfirst⟩
    have hzero : s.dash.counted = 0 := by simpa [DashLink.awaitsExit, h] using hfirst
    exact hc.elim (· hcode) (· hzero)
  have hframe : ¬ s.dash.frame = .idle := by simp [h]
  rw [State.takeUnlisted, if_neg hnot, takeCommand, if_neg (State.serves_watching h), State.onDash, DashLink.ignore,
    if_neg hframe]

/-- R179: an unlisted byte as the first of a command frame is refused, 0xA5 among them. -/
theorem State.takeUnlisted_serving (h : Serving s) (code : Byte) :
    s.takeUnlisted code = s.reply 0 .badCommand [] := by
  have hframe : s.dash.frame = .receiving := h.2
  have hnot : ¬ (code = watchExit ∧ s.dash.awaitsExit = true) := by simp [DashLink.awaitsExit, hframe]
  rw [State.takeUnlisted, if_neg hnot]
  exact takeCommand_read h rfl

/-! ### WATCH (R184) -/

theorem watchBody_ok {b h : Byte} {block : WatchBlock} {hold : Bool} (hb : blockArg b = some block)
    (hh : switchArg h = some hold) : watchBody b h s = watchReply block hold s := by
  simp only [watchBody, hb, hh]

/-- R184: a block above 4 names none. -/
theorem blockArg_eq_none {b : Byte} (h : 4 < b.toNat) : blockArg b = none := by
  rw [blockArg, if_neg (by omega), dif_neg (by omega)]

/-- R178: a switch above 1 names none. -/
theorem switchArg_eq_none {h : Byte} (hh : 1 < h.toNat) : switchArg h = none := by
  have h0 : ¬ h = 0 := by rintro rfl; simp at hh
  have h1 : ¬ h = 1 := by rintro rfl; simp at hh
  rw [switchArg, if_neg h0, if_neg h1]

theorem watchBody_badArg {b h : Byte} (hb : 4 < b.toNat ∨ 1 < h.toNat) : watchBody b h s = refuse 30 .badArg s := by
  rcases hb with hb | hh
  · simp only [watchBody, blockArg_eq_none hb]
  · simp only [watchBody, switchArg_eq_none hh]
    cases blockArg b <;> rfl

end

/-- Settles O52: each edge of DCS by the power state and the frame, each unlisted byte by the frame, and WATCH. -/
theorem framesBeginAndEnd : Obligations.FramesBeginAndEnd := by
  refine ⟨fun s => ⟨fun h => ?_, fun hd hf => ⟨fun hp hw => ?_, fun b hp hw => ?_, fun hp => ?_⟩,
      fun hq => ⟨fun f hf hn n => ?_, fun a r bytes b n hf => ?_, fun a r bytes n hf => ?_⟩,
      fun snapshot hf => ⟨fun i hi => ⟨fun hc => ?_, fun hc => ?_⟩, fun code hwf hne => ?_⟩⟩,
    fun s h => ⟨fun b hb block hold hblock hhold => ?_, fun b hb hbad => ?_, fun code hwf => ?_, ?_⟩⟩
  · have hignored : s.ignoresFalling = true := by rcases h with h | h <;> simp [State.ignoresFalling, h]
    exact congrArg Host.Outcome.next (if_pos hignored)
  · rw [exec_dcsFalling_active hd hp hf, State.openFrame, hw]
    rfl
  · rw [exec_dcsFalling_active hd hp hf, State.openFrame, hw]
    rfl
  · exact ⟨_, exec_dcsFalling_standby hd hp hf, rfl⟩
  · rw [exec_dcsRising_plain hq, DashLink.endFrame_unanswered (by rwa [hf])]
  · rw [exec_dcsRising_plain hq, DashLink.endFrame_answered hf]
    rfl
  · rw [exec_dcsRising_plain hq, DashLink.endFrame_answered hf]
    rfl
  · rw [exec_watchExit hi, State.takeUnlisted_exits hf hc]
  · rw [exec_watchExit hi, State.takeUnlisted_counts hf (.inr hc)]
  · rw [exec_badCommand_unlisted hwf, State.takeUnlisted_counts hf (.inl hne)]
  · exact congrArg Host.Outcome.next (takeCommand_of_unchanged h.serves h.1.2 (watchBody_ok hblock hhold))
  · exact congrArg Host.Outcome.next (takeCommand_read h (watchBody_badArg hbad))
  · rw [exec_badCommand_unlisted hwf, State.takeUnlisted_serving h]
  · rw [exec_watchExit (.inl rfl), State.takeUnlisted_serving h]

end Sys2Proof.Machine
end

section
/-! PROOFS. The ways into STANDBY, what the entry leaves, and the wake (O56). -/

namespace Sys2Proof.Machine

/-! ### The lamps' run counts through a derivation of the sign (R145) -/

/-- R145: both run counts of the lamp are 0. -/
def Lamp.AtZero (l : Lamp) : Prop := l.outRun = 0 ∧ l.inRun = 0

theorem Lamp.AtZero.stopIf {l : Lamp} (h : l.AtZero) (stops : Bool) : (l.stopIf stops).AtZero := by
  cases stops
  · exact h
  · exact ⟨rfl, rfl⟩

theorem Lamps.forall_map {α β : Type} {p : β → Prop} {q : α → Prop} {f : α → β} {l : Lamps α}
    (hl : ∀ x ∈ l.list, q x) (hf : ∀ x, q x → p (f x)) : ∀ y ∈ (l.map f).list, p y := by
  simp only [Lamps.list, Lamps.map, List.forall_mem_cons] at hl ⊢
  obtain ⟨h0, h1, h2, h3, -⟩ := hl
  exact ⟨hf _ h0, hf _ h1, hf _ h2, hf _ h3, nofun⟩

theorem Lamps.forall_zip {α β γ : Type} {p : γ → Prop} {q : β → Prop} {f : α → β → γ} {a : Lamps α} {l : Lamps β}
    (hl : ∀ x ∈ l.list, q x) (hf : ∀ c x, q x → p (f c x)) : ∀ y ∈ (Lamps.zip f a l).list, p y := by
  simp only [Lamps.list, Lamps.zip, List.forall_mem_cons] at hl ⊢
  obtain ⟨h0, h1, h2, h3, -⟩ := hl
  exact ⟨hf _ _ h0, hf _ _ h1, hf _ _ h2, hf _ _ h3, nofun⟩

/-- R142: run counts at 0 stay there when the lamps follow a change of the sign state. -/
theorem Sign.change_atZero {g : Sign} (h : ∀ l ∈ g.lamps.list, l.AtZero) (new : SignState) :
    ∀ l ∈ (g.change new).lamps.list, l.AtZero := by
  have hstopped : ∀ l ∈ ((stopped g.shown new).zip Lamp.stopIf g.lamps).list, l.AtZero :=
    Lamps.forall_zip h fun c _ hl => hl.stopIf c
  unfold Sign.change
  split
  · exact Lamps.forall_map hstopped fun _ hl => hl
  · exact Lamps.forall_zip hstopped fun _ _ hl => hl

theorem State.followSign_atZero {s : State} (h : ∀ l ∈ s.sign.lamps.list, l.AtZero) :
    ∀ l ∈ s.followSign.sign.lamps.list, l.AtZero := by
  unfold State.followSign
  split
  · exact h
  · exact Sign.change_atZero h _

/-- R150: with the counts of all four lamps set to 0, every run count is 0. -/
theorem Sign.countsClear_atZero (g : Sign) : ∀ l ∈ g.countsClear.lamps.list, l.AtZero :=
  Lamps.forall_map (q := fun _ => True) (fun _ _ => trivial) fun _ _ => ⟨rfl, rfl⟩

/-! ### Standby entry (R173) -/

/-- R173: of the supply unit and the dashboard link standby entry sees no more than it keeps. -/
theorem State.enterStandby_congr {s : State} {u : Supply} {d : DashLink} (hu : u.sleep = s.supply.sleep)
    (hd : d.abandon = s.dash.abandon) : State.enterStandby { s with supply := u, dash := d } = s.enterStandby := by
  simp only [State.enterStandby, State.onSupply, State.onIc, State.onLink, State.onDash, hu, hd]

@[simp] theorem State.enterStandby_dash (s : State) : s.enterStandby.dash = s.dash.abandon := by
  simp [State.enterStandby]

theorem State.enterStandby_atZero (s : State) : ∀ l ∈ s.enterStandby.sign.lamps.list, l.AtZero :=
  State.followSign_atZero (Sign.countsClear_atZero _)

/-- R137: the intercom of standby entry keeps each station's privacy, with the station IDLE. -/
theorem Intercom.allIdle_line (c : Intercom) (x : Station) :
    (c.allIdle.line x).state = .idle ∧ (c.allIdle.line x).privacy = (c.line x).privacy := by
  cases x <;> exact ⟨rfl, rfl⟩

/-! ### The ways into STANDBY (R171, R172) -/

section
variable {s : State}

theorem standbyBody_inactive (ha : s.anyActive = false) : standbyBody s =
    if s.store.busy then refuse 0 .busy s else ok [] (s.onSupply (fun u => { u with standbyRequest := true })) :=
  if_neg (by simp [ha])

/-- R172, R173: a STANDBY request at the end of its frame, with no fare active. -/
theorem exec_dcsRising_sleeps {a : Nat} {r : ResultCode} {bytes : List Byte} (hp : s.supply.power = .active)
    (hq : s.supply.standbyRequest = true) (hf : s.dash.frame = .answered a r bytes .nothing) (ha : s.anyActive = false)
    (n : Nat) : exec (.dcsRising n) s = .next s.enterStandby := by
  have hended : exec (.dcsRising n) s = .next (State.enterStandby { s with dash := s.dash.endFrame n }) :=
    congrArg Host.Outcome.next ((if_pos hq).trans (if_pos ⟨hp, ha⟩))
  have hdash : (s.dash.endFrame n).abandon = s.dash.abandon := by
    rw [DashLink.endFrame_answered hf]
    rfl
  exact hended.trans (congrArg Host.Outcome.next (State.enterStandby_congr rfl hdash))

/-- R172: a STANDBY request whose frame ends with a fare active is dropped. -/
theorem exec_dcsRising_dropped {a : Nat} {r : ResultCode} {bytes : List Byte} (hq : s.supply.standbyRequest = true)
    (hf : s.dash.frame = .answered a r bytes .nothing) (ha : s.anyActive = true) (n : Nat) :
    exec (.dcsRising n) s = .next { s with
      dash := { s.dash with frame := .idle, counted := 0 }, supply := { s.supply with standbyRequest := false } } := by
  have hactive : ¬ (s.supply.power = .active ∧ s.anyActive = false) := by simp [ha]
  have hended : exec (.dcsRising n) s
      = .next { s with dash := s.dash.endFrame n, supply := { s.supply with standbyRequest := false } } :=
    congrArg Host.Outcome.next ((if_pos hq).trans (if_neg hactive))
  rw [hended, DashLink.endFrame_answered hf]
  rfl

/-- R171: the ignition-off timer's expiry is the rollover's own count of the timer, brought to 300. -/
theorem exec_ignitionOffTimerExpiry_sleeps (hp : s.supply.power = .active) (ho : s.supply.ignitionOn = false)
    (ha : s.anyActive = false) (hs : s.store.state = .idle) (ht : 299 ≤ s.supply.offTimer) :
    exec .ignitionOffTimerExpiry s = .next s.enterStandby := by
  have hexpires : s.offTimerExpires = true := by
    simp [State.offTimerExpires, hp, ho, ha, Store.not_busy hs, offTimerMax]
    omega
  have hcounts : s.countIgnitionOff = s.ignitionTick := (if_pos ⟨hp, ho⟩).symm
  have hsleeps := (hcounts.trans (State.ignitionTick_sleeps hp ho ha hs ht)).trans (State.enterStandby_congr rfl rfl)
  exact congrArg Host.Outcome.next ((if_pos hexpires).trans hsleeps)

end

/-! ### The wake (R174, R189) -/

/-- R174, R187: the part at a wake before the RELEASE_HOLDs are posted again and the sign is derived. -/
def State.woken (s : State) : State :=
  (((s.onSupply (fun u => { u with power := .active, offTimer := 0 })).onIc Intercom.trackersLong).onSign
    Sign.countsClear).onLink PartitionLink.selectLeft

theorem State.wake_eq (s : State) : s.wake = s.woken.repostBoth.followSign := rfl

theorem State.wake_link (s : State) : s.wake.link = s.woken.repostBoth.link := State.followSign_link _

theorem State.wake_atZero (s : State) : ∀ l ∈ s.wake.sign.lamps.list, l.AtZero := by
  rw [State.wake_eq]
  refine State.followSign_atZero ?_
  rw [State.repostBoth_sign]
  exact s.sign.countsClear_atZero

theorem Intercom.trackersLong_line (c : Intercom) (x : Station) :
    c.trackersLong.line x = { c.line x with tracker := .long } := by
  cases x <;> rfl

/-- Settles O56: the STANDBY command, the end of its frame, the timer's expiry, and the blocks that standby entry and a
wake leave. -/
theorem standbyIsEntered : Obligations.StandbyIsEntered := by
  refine ⟨fun s h => ⟨fun ha => ?_, fun ha hs => ?_, fun ha hs => ?_⟩,
    fun s n a r bytes hp hq hf => ⟨fun ha => ?_, fun ha => ?_⟩,
    fun s hp ho ha hs ht => ?_, fun s => ?_, fun s => ?_⟩
  · exact congrArg Host.Outcome.next (takeCommand_read h (if_pos ha))
  · have hbusy : s.store.busy = true := by simpa [Store.busy] using hs
    exact congrArg Host.Outcome.next (takeCommand_read h ((standbyBody_inactive ha).trans (if_pos hbusy)))
  · have hidle : ¬ s.store.busy = true := by simp [Store.not_busy hs]
    have hbody := (standbyBody_inactive ha).trans (if_neg hidle)
    exact congrArg Host.Outcome.next (takeCommand_followed h hbody
      (h.1.2.onSupply (f := fun u => { u with standbyRequest := true }) rfl))
  · exact ⟨_, exec_dcsRising_sleeps hp hq hf ha n, rfl⟩
  · exact exec_dcsRising_dropped hq hf ha n
  · exact ⟨_, exec_ignitionOffTimerExpiry_sleeps hp ho ha hs ht, rfl⟩
  · obtain ⟨hsupply, hic, hlink⟩ := s.enterStandby_blocks
    have hasleep : s.enterStandby.supply.power ≠ .active := by simp [hsupply, Supply.sleep]
    rw [hic, hlink]
    exact ⟨hsupply, s.enterStandby_follows.blank hasleep, s.enterStandby_atZero, rfl, rfl, s.ic.allIdle_line, rfl,
      s.enterStandby_dash, s.enterStandby_slots, s.enterStandby_cal, s.enterStandby_dist, s.enterStandby_store,
      s.enterStandby_shift, s.enterStandby_prev, s.enterStandby_tot⟩
  · rw [State.wake_ic, State.wake_link]
    exact ⟨s.wake_supply, s.wake_follows, s.wake_atZero, rfl, s.ic.trackersLong_line, s.woken.repostBoth_link.1,
      fun x hn => State.repostBoth_isSome (s := s.woken) hn,
      fun x i t g hn ht hg hpending hx hlowest => State.repostBoth_lowest (s := s.woken) hn ht hg hpending hx hlowest,
      s.wake_dash, s.wake_slots, s.wake_cal, s.wake_dist, s.wake_store, s.wake_shift, s.wake_prev, s.wake_tot⟩

end Sys2Proof.Machine
end

section
/-! PROOFS. The invariants of the state after reset (O14). -/

namespace Sys2Proof.Machine

/-- R177: no slot is occupied after reset. -/
theorem State.reset_slot (i : Fin 4) : State.reset.slot i = none := by
  fin_cases i <;> rfl

theorem State.reset_slot_ne {i : Fin 4} {t : Trip} : State.reset.slot i ≠ some t := by
  rw [State.reset_slot]
  nofun

/-- R166: the totalizers of a first cold start, live and in its mirror write. -/
theorem firstColdStart_inRange : ({ zeroTotals with coldStarts := 1 } : Totalizers).inRange := by
  unfold Totalizers.inRange
  decide

theorem State.reset_totalsInRange : TotalsInRange State.reset := by
  refine ⟨firstColdStart_inRange, zeroTotals_inRange, zeroTotals_inRange, fun w hw => ?_⟩
  obtain rfl := Option.some.inj hw
  exact firstColdStart_inRange

/-- Settles O14: the fares' invariants speak of occupied slots, of which there are none, and the others of a reset value
or of a power state that is not ACTIVE. -/
theorem resetMeetsTheInvariants : Obligations.ResetMeetsTheInvariants := by
  have hunbound (x : Station) (i : Fin 4) : ¬ bindsStation x (State.reset.slot i) = true := by
    rw [State.reset_slot]
    nofun
  exact ⟨fun _ _ h => absurd h State.reset_slot_ne, fun _ _ _ _ h => absurd h State.reset_slot_ne,
    fun x i _ h => absurd h (hunbound x i), ⟨Nat.zero_le 90, fun _ _ h => absurd h State.reset_slot_ne⟩,
    fun _ _ h => absurd h State.reset_slot_ne, fun _ _ h => absurd h State.reset_slot_ne, fun _ => State.reset_slot,
    ⟨by decide, by decide⟩, connectedIsLinked_iff.2 coldIntercom_linksConnected, rfl, ⟨nofun, nofun⟩,
    State.reset_totalsInRange, fun _ => rfl, fun _ => rfl, fun _ => rfl, nofun⟩

end Sys2Proof.Machine
end

section
/-! PROOFS. The lengths of the blocks and of a notice (O5), and the posting of a notice by rank (O54). -/

namespace Sys2Proof.Machine

/-! ### Lengths of the parts of a block (section 11.6) -/

@[simp] theorem le2_length (n : Nat) : (le2 n).length = 2 := rfl

@[simp] theorem le3_length (n : Nat) : (le3 n).length = 3 := rfl

@[simp] theorem le4_length (n : Nat) : (le4 n).length = 4 := rfl

@[simp] theorem signedLe2_length (z : Int) : (signedLe2 z).length = 2 := rfl

@[simp] theorem zeros_length (n : Nat) : (zeros n).length = n := List.length_replicate

@[simp] theorem stampBytes_length (t : Stamp) : (stampBytes t).length = 7 := rfl

@[simp] theorem optStampBytes_length (t : Option Stamp) : (optStampBytes t).length = 7 := by
  cases t <;> rfl

/-- A list of records laid into its places takes all of their room, whatever the list. -/
@[simp] theorem fill_length (room size : Nat) (bytes : List Byte) : (fill room size bytes).length = room * size := by
  simp [fill]

@[simp] theorem selectionBytes_length (sel : Selection) : (selectionBytes sel).length = 2 := by
  cases sel <;> rfl

@[simp] theorem paymentBytes_length (p : Option Payment) : (paymentBytes p).length = 16 := by
  cases p <;> rfl

@[simp] theorem holdBytes_length (h : Option Hold) : (holdBytes h).length = 11 := by
  cases h <;> rfl

@[simp] theorem intercomField_length (c : Intercom) : (intercomField c).length = 3 := rfl

/-! ### Lengths of the blocks (R190) -/

theorem tripBlock_length (t : Trip) : (tripBlock t).length = 181 := by
  unfold tripBlock
  simp only [List.length_append, List.length_cons, List.length_nil, le2_length, le4_length,
    selectionBytes_length, stampBytes_length, optStampBytes_length, fill_length, paymentBytes_length, holdBytes_length]

theorem displayBlock_length (t : Option Trip) : (displayBlock t).length = 20 := by
  cases t <;> rfl

theorem State.statusBlock_length (s : State) : s.statusBlock.length = 30 := rfl

theorem shiftBlock_length (sh : Shift) : (shiftBlock sh).length = 122 := by
  unfold shiftBlock
  simp only [List.length_append, List.length_cons, List.length_nil, le2_length, le4_length,
    stampBytes_length, optStampBytes_length, signedLe2_length]

theorem noticeBytes_length (x : Station) (n : Option Notice) : (noticeBytes x n).length = 16 := by
  cases n with
  | none => rfl
  | some n => exact fill_length 1 16 _

/-- Settles O5: each block is a row of parts of fixed length; an absent part and an unused place read as many bytes of 0. -/
theorem blocksHaveTheirLengths : Obligations.BlocksHaveTheirLengths :=
  ⟨tripBlock_length, displayBlock_length, State.statusBlock_length, shiftBlock_length, fun _ => rfl, noticeBytes_length,
    fun _ => rfl, fun _ => rfl⟩

/-! ### The posting of a notice (R188) -/

section
variable {p : PartitionLink} {x : Station} {n old : Notice}

/-- R188: a notice that finds an empty slot, or one that gives way, stands in it. -/
theorem PartitionLink.post_taken (h : givesWay (p.notices.get x) n = true) : (p.post x n).notices.get x = some n := by
  rw [PartitionLink.post_notices, if_pos h, Sides.get_set_same]

/-- R188: a notice that finds one of a higher rank is dropped. -/
theorem PartitionLink.post_dropped (h : givesWay (p.notices.get x) n = false) : p.post x n = p := if_neg (by simp [h])

/-- R188: a notice posted at one station leaves the other station's slot. -/
theorem PartitionLink.post_notices_other : (p.post x n).notices.get x.other = p.notices.get x.other := by
  rw [PartitionLink.post_notices]
  split
  · exact Sides.get_set_other _ _ (Station.other_ne x)
  · rfl

/-- R188: an unread notice gives way exactly to its own rank and the higher ones. -/
theorem givesWay_some : givesWay (some old) n = true ↔ old.rank ≤ n.rank := by simp [givesWay]

end

/-- Settles O54: the notice is taken where what stands in the slot gives way to it, and dropped elsewhere. -/
theorem noticesArePostedByRank : Obligations.NoticesArePostedByRank := by
  refine ⟨fun p x n => ⟨fun h => ?_, fun old h hrank => ?_, fun old h hrank => ?_, PartitionLink.post_notices_other⟩,
    fun _ _ _ _ _ _ _ => ⟨rfl, rfl, rfl, rfl, rfl⟩⟩
  · exact PartitionLink.post_taken (by rw [h]; rfl)
  · exact PartitionLink.post_taken (by rwa [h, givesWay_some])
  · refine PartitionLink.post_dropped (Bool.eq_false_iff.2 ?_)
    rw [h, Ne, givesWay_some]
    omega

end Sys2Proof.Machine
end

section
/-! PROOFS. The bytes of the two links: numbers of several bytes, the frames of the dashboard unit (O3), and the writes of the
partition terminal (O4). -/

namespace Sys2Proof

open Machine

/-! ### Numbers of several bytes (R178) -/

theorem halfOf_extract (v : Half) : halfOf (v.extractLsb' 0 8) (v.extractLsb' 8 8) = v :=
  (BitVec.extractLsb'_append_extractLsb'_eq_extractLsb' rfl).trans BitVec.extractLsb'_eq_self

theorem wordOf_extract (v : Word) :
    wordOf (v.extractLsb' 0 8) (v.extractLsb' 8 8) (v.extractLsb' 16 8) (v.extractLsb' 24 8) = v :=
  calc wordOf (v.extractLsb' 0 8) (v.extractLsb' 8 8) (v.extractLsb' 16 8) (v.extractLsb' 24 8)
    _ = v.extractLsb' 24 8 ++ (v.extractLsb' 16 8 ++ v.extractLsb' 0 16) :=
      congrArg (fun low : Half => v.extractLsb' 24 8 ++ (v.extractLsb' 16 8 ++ low))
        (BitVec.extractLsb'_append_extractLsb'_eq_extractLsb' rfl)
    _ = v.extractLsb' 24 8 ++ v.extractLsb' 0 24 :=
      congrArg (fun low : BitVec 24 => v.extractLsb' 24 8 ++ low)
        (BitVec.extractLsb'_append_extractLsb'_eq_extractLsb' rfl)
    _ = v.extractLsb' 0 32 := BitVec.extractLsb'_append_extractLsb'_eq_extractLsb' rfl
    _ = v := BitVec.extractLsb'_eq_self

@[simp] theorem halfBytes_halfOf (a b : Byte) : halfBytes (halfOf a b) = [a, b] := by
  have h0 : (halfOf a b).extractLsb' 0 8 = a := BitVec.extractLsb'_append_eq_right
  have h1 : (halfOf a b).extractLsb' 8 8 = b := BitVec.extractLsb'_append_eq_left
  rw [halfBytes, h0, h1]

@[simp] theorem wordBytes_wordOf (a b c d : Byte) : wordBytes (wordOf a b c d) = [a, b, c, d] := by
  have hlow {start : Nat} (h : start + 8 ≤ 24) :
      (wordOf a b c d).extractLsb' start 8 = (c ++ (b ++ a)).extractLsb' start 8 :=
    BitVec.extractLsb'_append_eq_of_add_le h
  have hhalf {start : Nat} (h : start + 8 ≤ 16) :
      (wordOf a b c d).extractLsb' start 8 = (halfOf a b).extractLsb' start 8 :=
    (hlow (by omega)).trans (BitVec.extractLsb'_append_eq_of_add_le h)
  have h0 : (wordOf a b c d).extractLsb' 0 8 = a := (hhalf (by omega)).trans BitVec.extractLsb'_append_eq_right
  have h1 : (wordOf a b c d).extractLsb' 8 8 = b := (hhalf (by omega)).trans BitVec.extractLsb'_append_eq_left
  have h2 : (wordOf a b c d).extractLsb' 16 8 = c := (hlow (by omega)).trans BitVec.extractLsb'_append_eq_left
  have h3 : (wordOf a b c d).extractLsb' 24 8 = d := BitVec.extractLsb'_append_eq_left
  rw [wordBytes, h0, h1, h2, h3]

/-! ### Dashboard frames (R179) -/

/-- R179: the bytes are decoded to the command with whatever follows them, and no shorter run of them is a command. -/
def DecodesAlone (i : Instr) (bytes : List Byte) : Prop :=
  (∀ rest, decodeFrame (bytes ++ rest) = some i) ∧ ∀ p, p <+: bytes → p ≠ bytes → decodeFrame p = none

/-- A shorter run of a code and its arguments is empty, or the code with fewer arguments. -/
theorem DecodesAlone.cons {i : Instr} {code : Byte} {args : List Byte}
    (hall : ∀ rest, decodeCommand code (args ++ rest) = some i)
    (hfewer : ∀ q, q.length < args.length → decodeCommand code q = none) : DecodesAlone i (code :: args) := by
  refine ⟨hall, fun p hp hne => ?_⟩
  cases p with
  | nil => rfl
  | cons b q =>
    obtain ⟨rfl, hq⟩ := List.cons_prefix_cons.1 hp
    exact hfewer q (hq.length_le.lt_of_ne fun hl => hne (congrArg (b :: ·) (hq.eq_of_length hl)))

section
variable {q : List Byte}

theorem take1_of_short {f : Byte → Instr} (h : q.length < 1) : take1 f q = none := by
  unfold take1
  split
  · simp only [List.length_cons] at h; omega
  · rfl

theorem take2_of_short {f : Byte → Byte → Instr} (h : q.length < 2) : take2 f q = none := by
  unfold take2
  split
  · simp only [List.length_cons] at h; omega
  · rfl

theorem take3_of_short {f : Byte → Byte → Byte → Instr} (h : q.length < 3) : take3 f q = none := by
  unfold take3
  split
  · simp only [List.length_cons] at h; omega
  · rfl

theorem take4_of_short {f : Byte → Byte → Byte → Byte → Instr} (h : q.length < 4) : take4 f q = none := by
  unfold take4
  split
  · simp only [List.length_cons] at h; omega
  · rfl

theorem takeCash_of_short (h : q.length < 5) : takeCash q = none := by
  unfold takeCash
  split
  · simp only [List.length_cons] at h; omega
  · rfl

theorem takeStage_of_short (h : q.length < 6) : takeStage q = none := by
  unfold takeStage
  split
  · simp only [List.length_cons] at h; omega
  · rfl

theorem takeClock_of_short (h : q.length < 7) : takeClock q = none := by
  unfold takeClock
  split
  · simp only [List.length_cons] at h; omega
  · rfl

end

/-- R179: a code absent from the command table is taken at its own byte. -/
theorem decodeCommand_unlisted {code : Byte} (h : code ∉ commandCodes) (args : List Byte) :
    decodeCommand code args = some (.badCommand code) := by
  have hlisted : code.toNat ∉ commandCodes.map BitVec.toNat := fun hm => by
    obtain ⟨c, hc, he⟩ := List.mem_map.1 hm
    exact h (BitVec.eq_of_toNat_eq he ▸ hc)
  unfold decodeCommand
  split
  case h_42 => rfl
  all_goals rename_i hcode; exact absurd (hcode ▸ by decide) hlisted

/-- R190: a dashboard command's bytes bring it about, each of them needed. -/
theorem encodeFrame_decodesAlone {i : Instr} {bytes : List Byte} (hwf : i.wellFormed = true)
    (h : encodeFrame i = some bytes) : DecodesAlone i bytes := by
  cases i with
  | readClock | loadStage | enableCommit | commit | standby | talkRelease | clearAlert | shiftBreak | shiftResume
  | shiftClose | readTotalizers | readStatus | readEvents | identify =>
    cases h
    exact .cons (fun _ => rfl) nofun
  | pauseFare | resumeFare | stopFare | reopenFare | readTrip | declareUnpaid | adjustClock | answer | openStation
  | closeStation | talkPress | signDuty | shareAccept | signSetup | readShift =>
    cases h
    exact .cons (fun _ => rfl) fun _ => take1_of_short
  | cancelExtra | watch =>
    cases h
    exact .cons (fun _ => rfl) fun _ => take2_of_short
  | addExtra =>
    cases h
    exact .cons (fun _ => rfl) fun _ => take3_of_short
  | startFare =>
    cases h
    exact .cons (fun _ => rfl) fun _ => take4_of_short
  | releaseTrip slot trip =>
    cases h
    exact .cons (fun _ => congrArg (some <| Instr.releaseTrip slot ·) (halfOf_extract trip)) fun _ => take3_of_short
  | readItem source selector =>
    cases h
    exact .cons (fun _ => congrArg (some <| Instr.readItem source ·) (halfOf_extract selector)) fun _ => take3_of_short
  | releaseShift number =>
    cases h
    exact .cons (fun _ => congrArg (some <| Instr.releaseShift ·) (halfOf_extract number)) fun _ => take2_of_short
  | setEventMask mask =>
    cases h
    exact .cons (fun _ => congrArg (some <| Instr.setEventMask ·) (halfOf_extract mask)) fun _ => take2_of_short
  | shiftOpen driver =>
    cases h
    exact .cons (fun _ => congrArg (some <| Instr.shiftOpen ·) (wordOf_extract driver)) fun _ => take4_of_short
  | recordCash slot tip =>
    cases h
    exact .cons (fun _ => congrArg (some <| Instr.recordCash slot ·) (wordOf_extract tip)) fun _ => takeCash_of_short
  | stageWrite selector value =>
    cases h
    exact .cons (fun _ => congrArg₂ (some <| Instr.stageWrite · ·) (halfOf_extract selector) (wordOf_extract value))
      fun _ => takeStage_of_short
  | setClock year month day hour minute second =>
    cases h
    exact .cons (fun _ => congrArg (some <| Instr.setClock · month day hour minute second) (halfOf_extract year))
      fun _ => takeClock_of_short
  | badCommand code =>
    cases h
    have hcode : code ∉ commandCodes := by simpa [Instr.wellFormed] using hwf
    exact .cons (fun _ => decodeCommand_unlisted hcode _) nofun
  | _ => cases h

/-- Settles O3: each command by its code and the arguments that its code takes. -/
theorem framesDecodeToTheirCommand : Obligations.FramesDecodeToTheirCommand :=
  fun _ _ hwf h => encodeFrame_decodesAlone hwf h

/-! ### Partition writes (R186) -/

@[simp] theorem stationArg_code (x : Station) : stationArg x.code = some x := by cases x <;> rfl

theorem code_of_stationArg {b : Byte} {x : Station} (h : stationArg b = some x) : x.code = b := by
  unfold stationArg at h
  split at h
  · rename_i hb; cases h; exact hb.symm
  split at h
  · rename_i hb; cases h; exact hb.symm
  · cases h

section
variable {kind : Byte} {x : Station} {body : List Byte} {m : Instr}

/-- R186: a write of its kind's length is a message. -/
theorem messageOf_of_length (h : messageLength kind = some (body.length + 2)) : (messageOf kind x body).isSome = true := by
  unfold messageLength at h
  split_ifs at h with hk hk hk hk hk hk hk <;> subst hk
  · match body, h with
    | [_, _, _, _, _, _, _, _, _, _], _ => rfl
  · match body, h with
    | [_, _, _, _], _ => rfl
  · match body, h with
    | [_, _], _ => rfl
  · match body, h with
    | [_, _, _, _, _, _, _, _, _, _, _, _, _, _, _], _ => rfl
  · match body, h with
    | [_, _, _, _, _, _], _ => rfl
  · match body, h with
    | [], _ => rfl
  · match body, h with
    | [], _ => rfl

/-- Section 11.6: a message has its kind's length, and is written in the bytes that make it. -/
theorem messageOf_eq_some (h : messageOf kind x body = some m) :
    messageLength kind = some (body.length + 2) ∧ encodeWrite m = some (kind :: x.code :: body) ∧ m.wellFormed = true := by
  unfold messageOf at h
  split_ifs at h with hk hk hk hk hk hk hk
  all_goals
    subst hk
    split at h <;> cases h
    exact ⟨rfl, by simp [encodeWrite], rfl⟩

theorem decodeWrite_messageOf (h : messageOf kind x body = some m) : decodeWrite (kind :: x.code :: body) = some m := by
  simp [decodeWrite, asMessage, h]

end

/-- R186: a write makes a message exactly when its length is its kind's and its second byte names a station. -/
theorem asMessage_isSome (bytes : List Byte) : (asMessage bytes).isSome = isMessage bytes := by
  match bytes with
  | [] => rfl
  | [kind] => simp [asMessage, isMessage, namedStation]
  | kind :: b :: body =>
    cases hb : stationArg b with
    | none => simp [asMessage, isMessage, namedStation, hb]
    | some x =>
      have hfits : lengthFits (kind :: b :: body) = true ↔ messageLength kind = some (body.length + 2) := by
        simp [lengthFits]
      have hmessage : (messageOf kind x body).isSome = true ↔ messageLength kind = some (body.length + 2) := by
        refine ⟨fun h => ?_, messageOf_of_length⟩
        obtain ⟨m, hm⟩ := Option.isSome_iff_exists.1 h
        exact (messageOf_eq_some hm).1
      simp only [asMessage, isMessage, namedStation, hb, Option.bind_some, Option.isSome_some, Bool.and_true]
      exact Bool.eq_iff_iff.2 (hmessage.trans hfits.symm)

/-- R186: the message that a write makes is written in the write's bytes. -/
theorem encodeWrite_asMessage {bytes : List Byte} {m : Instr} (h : asMessage bytes = some m) :
    encodeWrite m = some bytes ∧ m.wellFormed = true := by
  match bytes with
  | [] | [_] => cases h
  | kind :: b :: body =>
    obtain ⟨x, hx, hm⟩ := Option.bind_eq_some_iff.1 h
    exact code_of_stationArg hx ▸ (messageOf_eq_some hm).2

/-- R186: what a write brings about is written in the write's bytes. -/
theorem encodeWrite_decodeWrite {i : Instr} {bytes : List Byte} (h : decodeWrite bytes = some i) :
    encodeWrite i = some bytes ∧ i.wellFormed = true := by
  match bytes with
  | [] => cases h
  | kind :: rest =>
    cases hm : asMessage (kind :: rest) with
    | none =>
      have hnot : isMessage (kind :: rest) = false := by rw [← asMessage_isSome, hm]; rfl
      simp only [decodeWrite, hm, Option.getD_none, Option.some.injEq] at h
      subst h
      exact ⟨rfl, by simp [Instr.wellFormed, hnot]⟩
    | some m =>
      simp only [decodeWrite, hm, Option.getD_some, Option.some.injEq] at h
      exact h ▸ encodeWrite_asMessage hm

/-- Section 11.6: the bytes of a partition write bring it about. -/
theorem decodeWrite_encodeWrite {i : Instr} {bytes : List Byte} (hwf : i.wellFormed = true)
    (h : encodeWrite i = some bytes) : decodeWrite bytes = some i := by
  cases i with
  | holdPlaced x trip reference amount =>
    cases h
    refine decodeWrite_messageOf (?_ : some (Instr.holdPlaced x _ _ _) = _)
    rw [halfOf_extract, wordOf_extract, wordOf_extract]
  | holdReleased x reference =>
    cases h
    refine decodeWrite_messageOf (?_ : some (Instr.holdReleased x _) = _)
    rw [wordOf_extract]
  | payBegin x trip =>
    cases h
    refine decodeWrite_messageOf (?_ : some (Instr.payBegin x _) = _)
    rw [halfOf_extract]
  | payResult x trip outcome captured tip reference =>
    cases h
    refine decodeWrite_messageOf (?_ : some (Instr.payResult x _ _ _ _ _) = _)
    rw [halfOf_extract, wordOf_extract, wordOf_extract, wordOf_extract]
  | payVoid x trip reference =>
    cases h
    refine decodeWrite_messageOf (?_ : some (Instr.payVoid x _ _) = _)
    rw [halfOf_extract, wordOf_extract]
  | fareQuery | selectorWrite =>
    cases h
    exact decodeWrite_messageOf rfl
  | partitionWriteDiscarded bytes =>
    cases h
    obtain ⟨hne, hnot⟩ : bytes ≠ [] ∧ isMessage bytes = false := by simpa [Instr.wellFormed] using hwf
    have hm : asMessage bytes = none := by
      rwa [← asMessage_isSome, Option.isSome_eq_false_iff, Option.isNone_iff_eq_none] at hnot
    cases bytes with
    | nil => exact absurd rfl hne
    | cons => simp [decodeWrite, hm]
  | _ => cases h

/-- Settles O4: a write that makes a message is that message's bytes, and every other write is discarded as it is. -/
theorem writesDecodeToTheirMessage : Obligations.WritesDecodeToTheirMessage :=
  fun _ _ => ⟨fun h => (encodeWrite_decodeWrite h).symm, fun h => decodeWrite_encodeWrite h.1 h.2⟩

end Sys2Proof
end

section
/-! PROOFS. What every command answers: a dashboard command is taken in its frame and either refused or carried out (O15), and
every command leaves the queue (O2). -/

namespace Sys2Proof.Machine

/-! ### Refused or carried out (R179) -/

section
variable {i : Instr} {s u : State} {x : Reply × State}

/-- R179: what the body of the command `i` answers in the state `s`: a refusal leaves the state, with a response of 0 but for
the selector of a COMMIT's BAD_IMAGE, and brings nothing at the end of its frame; and the queue is left in any case. -/
structure Answers (i : Instr) (s : State) (x : Reply × State) : Prop where
  state : x.1.result ≠ .ok → x.2 = s
  atEnd : x.1.result ≠ .ok → x.1.atEnd = .nothing
  response : x.1.result ≠ .ok →
    (i = .commit ∧ x.1.result = .badImage) ∨ x.1.response = List.replicate x.1.response.length 0
  queue : x.2.pending = s.pending

theorem Answers.refused (length : Nat) (code : ResultCode) : Answers i s (refuse length code s) :=
  ⟨fun _ => rfl, fun _ => rfl, fun _ => .inr (by simp [refuse, zeros]), rfl⟩

theorem Answers.carriedOut (hr : x.1.result = .ok) (h : x.2.pending = s.pending) : Answers i s x :=
  ⟨(absurd hr ·), (absurd hr ·), (absurd hr ·), h⟩

theorem Answers.accepted {response : List Byte} (h : u.pending = s.pending) : Answers i s (ok response u) :=
  .carriedOut rfl h

/-- A check that refuses; the command goes on where it passes. -/
theorem Answers.unlessRefused {c : Prop} [Decidable c] {length : Nat} {code : ResultCode}
    (h : Answers i s x) : Answers i s (if c then refuse length code s else x) := by
  split
  · exact .refused length code
  · exact h

/-- A check that a command passes to be carried out, and is refused otherwise. -/
theorem Answers.whenTaken {c : Prop} [Decidable c] {length : Nat} {code : ResultCode}
    (h : Answers i s x) : Answers i s (if c then x else refuse length code s) := by
  split
  · exact h
  · exact .refused length code

theorem Answers.slot {length : Nat} {slot : Byte} {f : Fin 4 → Trip → Reply × State} (h : ∀ k t, Answers i s (f k t)) :
    Answers i s (withSlot length slot s f) := by
  rcases withSlot_cases length slot s f with ⟨-, e⟩ | ⟨k, -, -, e⟩ | ⟨k, t, -, -, e⟩ <;> rw [e]
  · exact .refused _ _
  · exact .refused _ _
  · exact h k t

/-! ### The queue under the operations of the commands -/

theorem State.announceStop_pending (k : Fin 4) (s : State) : (s.announceStop k).pending = s.pending := by
  unfold State.announceStop
  split
  · rfl
  · simp

theorem State.repostDue_pending (t : Trip) (s : State) : (s.repostDue t).pending = s.pending := by
  unfold State.repostDue
  split
  · simp
  · rfl

theorem State.settleByDriver_pending (k : Fin 4) (t : Trip) (m : Method) (captured tip : Nat) (s : State) :
    (s.settleByDriver k t m captured tip).pending = s.pending := by simp [State.settleByDriver]

/-! ### The bodies of the dashboard commands -/

theorem startFareBody_answers (set share selection tariff : Byte) :
    Answers i s (startFareBody set share selection tariff s) := by
  unfold startFareBody
  split
  · unfold startFareWith
    split
    · exact .refused _ _
    · refine .unlessRefused (.unlessRefused (.unlessRefused ?_))
      unfold startFareUnder
      refine .unlessRefused (.unlessRefused ?_)
      split
      · exact .refused _ _
      split
      · exact .refused _ _
      · exact .unlessRefused (.unlessRefused (.accepted rfl))
  · exact .refused _ _

theorem reopenFareBody_answers (slot : Byte) : Answers i s (reopenFareBody slot s) :=
  .slot fun _ _ => .unlessRefused <| .unlessRefused <| by
    split
    · exact .refused _ _
    · exact .accepted rfl

theorem addExtraBody_answers (slot : Byte) (kind count : Nat) : Answers i s (addExtraBody slot kind count s) :=
  .slot fun _ _ => .unlessRefused <| .unlessRefused <| .unlessRefused <| .unlessRefused <| .unlessRefused <|
    .accepted (by simp [State.addExtra, State.repostDue_pending])

theorem cancelExtraBody_answers (slot : Byte) (kind : Nat) : Answers i s (cancelExtraBody slot kind s) :=
  .slot fun _ _ => .unlessRefused <| .unlessRefused <| .unlessRefused <| .unlessRefused <|
    .accepted (by simp [State.repostDue_pending])

theorem adjustClockBody_answers (request : Int) : Answers i s (adjustClockBody request s) := by
  unfold adjustClockBody
  split
  · exact .refused _ _
  · exact .unlessRefused <| .unlessRefused <| .unlessRefused <| .accepted (by simp [State.adjustClock])

theorem stageWriteBody_answers (selector value : Nat) : Answers i s (stageWriteBody selector value s) :=
  .unlessRefused <| .unlessRefused <| by
    split
    · exact .refused _ _
    · exact .accepted rfl

theorem readItemBody_answers (source : Byte) (selector : Nat) : Answers i s (readItemBody source selector s) := by
  unfold readItemBody
  split
  · exact .refused _ _
  split
  · split
    · exact .refused _ _
    · exact .accepted rfl
  · exact .whenTaken (.whenTaken (.accepted rfl))

theorem commitBody_answers : Answers .commit s (commitBody s) := by
  refine .unlessRefused <| .unlessRefused <| .unlessRefused <| .unlessRefused <| .unlessRefused ?_
  split
  · exact ⟨fun _ => rfl, fun _ => rfl, fun _ => .inl ⟨rfl, rfl⟩, rfl⟩
  · exact .accepted rfl

theorem answerBody_answers (station : Byte) : Answers i s (answerBody station s) := by
  unfold answerBody
  split
  · exact .refused _ _
  · exact .unlessRefused (.unlessRefused (.accepted rfl))

theorem openBody_answers (station : Byte) : Answers i s (openBody station s) := by
  unfold openBody
  split
  · exact .refused _ _
  · exact .unlessRefused (.unlessRefused (.unlessRefused (.accepted rfl)))

theorem closeBody_answers (station : Byte) : Answers i s (closeBody station s) := by
  unfold closeBody
  split
  · exact .refused _ _
  · exact .whenTaken (.accepted rfl)

theorem talkPressBody_answers (set : Byte) : Answers i s (talkPressBody set s) := by
  unfold talkPressBody
  split
  · exact .refused _ _
  · exact .whenTaken (.accepted rfl)

theorem signDutyBody_answers (value : Byte) : Answers i s (signDutyBody value s) := by
  unfold signDutyBody
  split
  · exact .refused _ _
  · exact .accepted (State.followSign_pending _)

theorem shareAcceptBody_answers (value : Byte) : Answers i s (shareAcceptBody value s) := by
  unfold shareAcceptBody
  split
  · exact .refused _ _
  · exact .accepted (State.followSign_pending _)

theorem shiftBreakBody_answers : Answers i s (shiftBreakBody s) := by
  unfold shiftBreakBody
  split
  · exact .refused _ _
  · exact .unlessRefused (.unlessRefused (.accepted rfl))

theorem shiftResumeBody_answers : Answers i s (shiftResumeBody s) := by
  unfold shiftResumeBody
  split
  · exact .refused _ _
  · exact .unlessRefused (.accepted rfl)

theorem shiftCloseBody_answers : Answers i s (shiftCloseBody s) := by
  unfold shiftCloseBody
  split
  · exact .refused _ _
  · exact .unlessRefused (.unlessRefused (.unlessRefused (.unlessRefused (.accepted rfl))))

theorem readShiftBody_answers (which : Byte) : Answers i s (readShiftBody which s) := by
  unfold readShiftBody
  split
  · exact .refused _ _
  · exact .refused _ _
  · exact .accepted rfl

theorem releaseShiftBody_answers (number : Nat) : Answers i s (releaseShiftBody number s) := by
  unfold releaseShiftBody
  split
  · exact .refused _ _
  · exact .unlessRefused (.accepted rfl)

theorem watchBody_answers (block hold : Byte) : Answers i s (watchBody block hold s) := by
  unfold watchBody
  split
  · exact .carriedOut rfl rfl
  · exact .refused _ _

end

/-! ### A dashboard command in its frame (R179) -/

/-- R179: the command of a code of the command table is taken with its arguments in a frame that awaits it. -/
def TakenInFrame (i : Instr) (bytes : List Byte) : Prop :=
  ∃ code args body, bytes = code :: args ∧ code ∈ commandCodes
    ∧ ∀ s, exec i s = .next (takeCommand args.length body s) ∧ Answers i s (body s)

theorem TakenInFrame.of {i : Instr} {code : Byte} {args bytes : List Byte} {body : State → Reply × State}
    (h : some (code :: args) = some bytes) (hexec : ∀ s, exec i s = .next (takeCommand args.length body s))
    (hanswers : ∀ s, Answers i s (body s)) (hcode : code ∈ commandCodes := by decide) : TakenInFrame i bytes :=
  ⟨code, args, body, (Option.some.inj h).symm, hcode, fun s => ⟨hexec s, hanswers s⟩⟩

theorem exec_takenInFrame {i : Instr} {bytes : List Byte} (h : encodeFrame i = some bytes)
    (hlisted : ∀ code, i ≠ .badCommand code) : TakenInFrame i bytes := by
  cases i with
  | startFare => exact .of h (fun _ => rfl) fun _ => startFareBody_answers ..
  | pauseFare =>
    exact .of h (fun _ => rfl) fun _ => .slot fun _ _ => .whenTaken (.accepted (by simp [State.pauseFare]))
  | resumeFare => exact .of h (fun _ => rfl) fun _ => .slot fun _ _ => .whenTaken (.accepted rfl)
  | stopFare =>
    exact .of h (fun _ => rfl) fun _ => .slot fun _ _ => .whenTaken <|
      .accepted (by simp [State.stopFare, State.announceStop_pending])
  | reopenFare => exact .of h (fun _ => rfl) fun _ => reopenFareBody_answers _
  | addExtra => exact .of h (fun _ => rfl) fun _ => addExtraBody_answers ..
  | cancelExtra => exact .of h (fun _ => rfl) fun _ => cancelExtraBody_answers ..
  | readTrip => exact .of h (fun _ => rfl) fun _ => .slot fun _ _ => .accepted rfl
  | releaseTrip =>
    exact .of h (fun _ => rfl) fun _ => .slot fun _ _ =>
      .unlessRefused <| .unlessRefused <| .unlessRefused (.accepted rfl)
  | recordCash =>
    exact .of h (fun _ => rfl) fun _ => .slot fun _ _ =>
      .unlessRefused <| .unlessRefused <| .unlessRefused <| .accepted (State.settleByDriver_pending ..)
  | declareUnpaid =>
    exact .of h (fun _ => rfl) fun _ => .slot fun _ _ => .unlessRefused <| .unlessRefused <|
      .accepted (State.settleByDriver_pending ..)
  | setClock =>
    exact .of h (fun _ => rfl) fun _ => .unlessRefused <| .unlessRefused <| .unlessRefused <|
      .accepted (by simp [State.setClock])
  | adjustClock => exact .of h (fun _ => rfl) fun _ => adjustClockBody_answers _
  | readClock | readTotalizers | readStatus | identify | setEventMask =>
    exact .of h (fun _ => rfl) fun _ => .accepted rfl
  | readEvents => exact .of h (fun _ => rfl) fun _ => .carriedOut rfl rfl
  | loadStage => exact .of h (fun _ => rfl) fun _ => .unlessRefused (.accepted rfl)
  | stageWrite => exact .of h (fun _ => rfl) fun _ => stageWriteBody_answers ..
  | readItem => exact .of h (fun _ => rfl) fun _ => readItemBody_answers ..
  | enableCommit | talkRelease | signSetup => exact .of h (fun _ => rfl) fun _ => .whenTaken (.accepted rfl)
  | commit => exact .of h (fun _ => rfl) fun _ => commitBody_answers
  | standby => exact .of h (fun _ => rfl) fun _ => .unlessRefused (.unlessRefused (.accepted rfl))
  | answer => exact .of h (fun _ => rfl) fun _ => answerBody_answers _
  | openStation => exact .of h (fun _ => rfl) fun _ => openBody_answers _
  | closeStation => exact .of h (fun _ => rfl) fun _ => closeBody_answers _
  | talkPress => exact .of h (fun _ => rfl) fun _ => talkPressBody_answers _
  | signDuty => exact .of h (fun _ => rfl) fun _ => signDutyBody_answers _
  | shareAccept => exact .of h (fun _ => rfl) fun _ => shareAcceptBody_answers _
  | clearAlert => exact .of h (fun _ => rfl) fun _ => .whenTaken (.accepted (State.followSign_pending _))
  | shiftOpen =>
    exact .of h (fun _ => rfl) fun _ =>
      .unlessRefused <| .unlessRefused <| .unlessRefused <| .unlessRefused (.accepted rfl)
  | shiftBreak => exact .of h (fun _ => rfl) fun _ => shiftBreakBody_answers
  | shiftResume => exact .of h (fun _ => rfl) fun _ => shiftResumeBody_answers
  | shiftClose => exact .of h (fun _ => rfl) fun _ => shiftCloseBody_answers
  | readShift => exact .of h (fun _ => rfl) fun _ => readShiftBody_answers _
  | releaseShift => exact .of h (fun _ => rfl) fun _ => releaseShiftBody_answers _
  | watch => exact .of h (fun _ => rfl) fun _ => watchBody_answers ..
  | badCommand code => exact absurd rfl (hlisted code)
  | _ => cases h

/-! ### Refused commands, and bytes that are no command (O15) -/

section
variable {i : Instr} {bytes response : List Byte} {s : State} {body : State → Reply × State} {n args : Nat}
  {code : ResultCode} {e : FrameEnd}

/-- R179: a refusal in the frame is the whole of what a served command changed. -/
theorem Answers.refusal (h : Serving s) (ha : Answers i s (body s))
    (hframe : (takeCommand n body s).dash.frame = .answered args code response e) (hne : code ≠ .ok) :
    takeCommand n body s = s.reply args code response ∧ e = .nothing
      ∧ ((i = .commit ∧ code = .badImage) ∨ response = List.replicate response.length 0) := by
  have htaken : takeCommand n body s = ((body s).2.answerFrame n (body s).1).followSign := if_pos h.serves
  rw [htaken, State.followSign_dash] at hframe
  obtain ⟨rfl, rfl, rfl, rfl⟩ := FrameState.answered.inj hframe
  have hbody : body s = (⟨(body s).1.result, (body s).1.response, .nothing⟩, s) :=
    Prod.ext (by rw [← ha.atEnd hne]) (ha.state hne)
  exact ⟨takeCommand_read h hbody, ha.atEnd hne, ha.response hne⟩

/-- R184: the exit from watch mode is awaited as the first byte of a watch frame. -/
theorem DashLink.awaitsExit_iff (d : DashLink) :
    d.awaitsExit = true ↔ d.counted = 0 ∧ ∃ snapshot, d.frame = .watching snapshot := by
  unfold DashLink.awaitsExit
  cases d.frame <;> simp

theorem State.not_serves (h : s.supply.power ≠ .active ∨ s.dash.frame ≠ .receiving) : ¬ s.serves = true := by
  rcases h with h | h <;> simp [State.serves, h]

/-- R178, R179: outside a frame that awaits it a command's bytes are ignored and counted, but for the exit from watch mode. -/
theorem exec_ignored (hwf : i.wellFormed = true) (h : encodeFrame i = some bytes) (hs : ¬ s.serves = true)
    (hexit : bytes = [0xA5] → ¬ s.dash.awaitsExit = true) : exec i s = .next (s.onDash (·.ignore bytes.length)) := by
  by_cases hbad : ∃ c, i = .badCommand c
  · obtain ⟨c, rfl⟩ := hbad
    cases h
    have hnot : ¬ (c = watchExit ∧ s.dash.awaitsExit = true) := fun ⟨hc, hw⟩ => hexit (congrArg ([·]) hc) hw
    rw [exec_badCommand_unlisted hwf, State.takeUnlisted, if_neg hnot]
    exact congrArg Host.Outcome.next (if_neg hs)
  · obtain ⟨c, args, body, rfl, -, hbody⟩ := exec_takenInFrame h (not_exists.1 hbad)
    exact (hbody s).1.trans (congrArg Host.Outcome.next (if_neg hs))

/-- R179, R190: of the dashboard commands' bytes 0xA5 is those of an unknown code alone. -/
theorem eq_badCommand_of_encodeFrame (h : encodeFrame i = some [0xA5]) : i = .badCommand 0xA5 := by
  by_cases hbad : ∃ c, i = .badCommand c
  · obtain ⟨c, rfl⟩ := hbad
    cases h
    rfl
  · obtain ⟨c, args, body, hbytes, hlisted, -⟩ := exec_takenInFrame h (not_exists.1 hbad)
    cases hbytes
    exact absurd hlisted (by decide)

end

/-- Settles O15: a refusing body leaves the state, an unlisted code is refused at its own byte, and elsewhere the bytes are
ignored and counted. -/
theorem refusedCommandChangesNothing : Obligations.RefusedCommandChangesNothing := by
  refine ⟨fun i s t args code response e hi h hex hframe hne => ?_,
    fun i bytes s hwf hi hs => ⟨fun hidle => ?_, fun hframe hnot => ?_, fun snapshot hbytes hcount hframe => ?_⟩⟩
  · obtain ⟨bytes, hbytes⟩ := Option.isSome_iff_exists.1 hi
    by_cases hbad : ∃ c, i = .badCommand c
    · obtain ⟨c, rfl⟩ := hbad
      by_cases hc : c ∈ commandCodes
      · have hkept : exec (.badCommand c) s = .next s := congrArg Host.Outcome.next (if_pos hc)
        cases hkept.symm.trans hex
        rw [h.2] at hframe
        cases hframe
      · have hrefused := (exec_badCommand_unlisted (s := s) (code := c) (by simp [Instr.wellFormed, hc])).trans
          (congrArg Host.Outcome.next (State.takeUnlisted_serving h c))
        cases hrefused.symm.trans hex
        cases hframe
        exact ⟨rfl, rfl, .inr rfl⟩
    · obtain ⟨c, a, body, -, -, hbody⟩ := exec_takenInFrame hbytes (not_exists.1 hbad)
      obtain ⟨hexec, hanswers⟩ := hbody s
      cases hexec.symm.trans hex
      exact hanswers.refusal h hframe hne
  · rw [exec_ignored hwf hi (State.not_serves hs) fun _ => by simp [DashLink.awaitsExit_iff, hidle]]
    simp [State.onDash, DashLink.ignore, hidle]
  · have hexit : bytes = [0xA5] → ¬ s.dash.awaitsExit = true := fun hbytes hw => by
      obtain ⟨hcount, snapshot, hwatch⟩ := s.dash.awaitsExit_iff.1 hw
      rcases hnot with hnot | hnot | hnot
      · exact hnot hbytes
      · exact hnot hcount
      · exact hnot snapshot hwatch
    rw [exec_ignored hwf hi (State.not_serves hs) hexit]
    simp [State.onDash, DashLink.ignore, hframe]
  · obtain rfl := eq_badCommand_of_encodeFrame (hbytes ▸ hi)
    rw [exec_watchExit (.inr rfl), State.takeUnlisted_exits hframe hcount]

/-! ### The queue (O2) -/

section
variable {s u : State}

theorem takeCommand_pending {n : Nat} {body : State → Reply × State} (h : (body s).2.pending = s.pending) :
    (takeCommand n body s).pending = s.pending := by
  rcases takeCommand_cases n body s with ⟨-, e⟩ | ⟨-, e⟩ <;> rw [e]
  · rfl
  · simpa using h

theorem takeMessage_pending {body : State → State} (h : (body s).pending = s.pending) :
    (takeMessage body s).pending = s.pending := by
  rcases takeMessage_cases body s with ⟨-, e⟩ | ⟨-, e⟩ <;> rw [e]
  simpa using h

theorem withFare_pending {x : Station} {kind : Byte} {n : Nat} {f : Fin 4 → Trip → State}
    (h : ∀ k t, (f k t).pending = s.pending) : (withFare x kind n s f).pending = s.pending := by
  rcases withFare_cases x kind n s f with e | ⟨k, t, -, -, -, e⟩ | ⟨k, t, -, -, -, e⟩ <;> rw [e]
  · exact State.deny_pending ..
  · exact State.deny_pending ..
  · exact h k t

theorem pending_ite {c : Prop} [Decidable c] {a b : State} (ha : a.pending = s.pending) (hb : b.pending = s.pending) :
    (if c then a else b).pending = s.pending := by
  split
  · exact ha
  · exact hb

theorem State.takeUnlisted_pending (code : Byte) (s : State) : (s.takeUnlisted code).pending = s.pending :=
  pending_ite rfl (takeCommand_pending rfl)

theorem State.inActive_pending {f : State → State} (h : ∀ u, (f u).pending = u.pending) (s : State) :
    (s.inActive f).pending = s.pending := pending_ite (h s) rfl

theorem State.outsideHoldover_pending {f : State → State} (h : ∀ u, (f u).pending = u.pending) (s : State) :
    (s.outsideHoldover f).pending = s.pending := pending_ite rfl (h s)

theorem State.breakTick_pending (s : State) : s.breakTick.pending = s.pending := rfl

end

/-! ### The queue under the partition messages (section 11.5) -/

section
variable (x : Station) (k : Fin 4) (t : Trip) (s : State)

theorem holdPlacedOn_pending (reference amount : Nat) : (holdPlacedOn x reference amount k t s).pending = s.pending := by
  unfold holdPlacedOn
  split
  · exact pending_ite (by simp) (by simp)
  · exact pending_ite (by simp) (pending_ite (by simp) (by simp [State.placeHold]))

theorem holdPlacedBody_pending (trip reference amount : Nat) :
    (holdPlacedBody x trip reference amount s).pending = s.pending :=
  pending_ite (by simp) (withFare_pending fun k t => holdPlacedOn_pending x k t s reference amount)

theorem holdReleasedBody_pending (reference : Nat) : (holdReleasedBody x reference s).pending = s.pending := by
  refine pending_ite (by simp) ?_
  split
  · simp
  split
  · simp
  · exact pending_ite rfl rfl

theorem payBeginOn_pending : (payBeginOn x k t s).pending = s.pending :=
  pending_ite (by simp) <| pending_ite (by simp) (by simp)

theorem payResultOn_pending (o : PayOutcome) (captured tip reference : Nat) :
    (payResultOn x o captured tip reference k t s).pending = s.pending := by
  refine pending_ite (pending_ite (by simp) (by simp)) (pending_ite (by simp) ?_)
  cases o with
  | approved => exact pending_ite (by simp) (pending_ite (by simp) (by simp [State.settleByCard]))
  | declined => simp [State.payDeclined]
  | cancelled => simp [State.payCancelled]

theorem payResultBody_pending (trip : Nat) (outcome : Byte) (captured tip reference : Nat) :
    (payResultBody x trip outcome captured tip reference s).pending = s.pending := by
  unfold payResultBody
  split
  · simp
  · exact pending_ite (by simp) (withFare_pending fun k t => payResultOn_pending x k t s _ captured tip reference)

theorem payVoidOn_pending (reference : Nat) : (payVoidOn x reference k t s).pending = s.pending :=
  pending_ite (by simp) <| pending_ite (by simp) <| pending_ite (by simp) <| pending_ite (by simp)
    (by simp [State.voidPayment])

theorem payVoidBody_pending (trip reference : Nat) : (payVoidBody x trip reference s).pending = s.pending :=
  pending_ite (by simp) (withFare_pending fun k t => payVoidOn_pending x k t s reference)

end

/-! ### The queue under every command -/

theorem State.endPeriodEarly_pending (w : Lamps Bool) (s : State) : (s.endPeriodEarly w).pending = s.pending :=
  pending_ite (s.sampleLamps_pending w) rfl

/-- The queue under a dashboard command. -/
theorem exec_pending_of_encodeFrame {c : Instr} {bytes : List Byte} (h : encodeFrame c = some bytes) (s : State) :
    ∃ t, exec c s = .next t ∧ t.pending = s.pending := by
  by_cases hbad : ∃ code, c = .badCommand code
  · obtain ⟨code, rfl⟩ := hbad
    exact ⟨_, rfl, pending_ite rfl (s.takeUnlisted_pending code)⟩
  · obtain ⟨_, _, body, -, -, hbody⟩ := exec_takenInFrame h (not_exists.1 hbad)
    exact ⟨_, (hbody s).1, takeCommand_pending (hbody s).2.queue⟩

/-- Every command answers a next state that keeps the queue: the dashboard's by their bodies, the others one by one. -/
theorem exec_pending (c : Instr) (s : State) : ∃ t, exec c s = .next t ∧ t.pending = s.pending := by
  cases hc : encodeFrame c with
  | some bytes => exact exec_pending_of_encodeFrame hc s
  | none =>
    cases c with
    | holdPlaced => exact ⟨_, rfl, takeMessage_pending (holdPlacedBody_pending ..)⟩
    | holdReleased => exact ⟨_, rfl, takeMessage_pending (holdReleasedBody_pending ..)⟩
    | payBegin x => exact ⟨_, rfl, takeMessage_pending <| withFare_pending fun k t => payBeginOn_pending x k t s⟩
    | payResult => exact ⟨_, rfl, takeMessage_pending (payResultBody_pending ..)⟩
    | payVoid => exact ⟨_, rfl, takeMessage_pending (payVoidBody_pending ..)⟩
    | fareQuery => exact ⟨_, rfl, takeMessage_pending rfl⟩
    | watchModeExit => exact ⟨_, rfl, s.takeUnlisted_pending _⟩
    | drstRising | batteryDomainLoss => exact ⟨_, rfl, rfl⟩
    | dcsRising => exact ⟨_, rfl, by simp⟩
    | dcsFalling => exact ⟨_, rfl, pending_ite rfl (pending_ite s.wake_pending rfl)⟩
    | secondRollover =>
      have hactive := (State.inActive_pending State.intercomTick_pending _).trans
        (State.inActive_pending State.fareTimers_pending s.tickCalendar.fareSecond.closeSecond)
      have hawake := (State.outsideHoldover_pending State.breakTick_pending _).trans hactive
      refine ⟨_, rfl, (State.followSign_pending _).trans ?_⟩
      rw [State.outsideHoldover_pending State.minuteTick_pending, State.ignitionTick_pending, hawake]
      simp
    | linkReset => exact ⟨_, rfl, pending_ite rfl s.linkReset_pending⟩
    | selectorWrite | connectionExpiry | talkExpiry | callChimeEnd | fareChimeEnd | mirrorWriteFailure
    | commitWriteFailure | callTimerExpiry =>
      exact ⟨_, rfl, pending_ite rfl rfl⟩
    | partitionWriteDiscarded bytes => exact ⟨_, rfl, pending_ite (s.judgeWrite_pending bytes) rfl⟩
    | noticeRead part => exact ⟨_, rfl, pending_ite (by cases part <;> simp [State.readNotice]) rfl⟩
    | paymentTimerExpiry k =>
      refine ⟨_, rfl, ?_⟩
      split
      · rfl
      · exact pending_ite (by simp) rfl
    | ignitionOffTimerExpiry => exact ⟨_, rfl, pending_ite s.countIgnitionOff_pending rfl⟩
    | acceptedEdge => exact ⟨_, rfl, pending_ite (s.edge_pending _) rfl⟩
    | dsensSample high => exact ⟨_, rfl, pending_ite rfl (s.sampleSensor_pending high)⟩
    | svcSample high => exact ⟨_, rfl, pending_ite rfl (s.sampleSwitch_pending high)⟩
    | buttonSample => exact ⟨_, rfl, pending_ite (by simp [State.sampleButton]) rfl⟩
    | lampPeriodEnd w => exact ⟨_, rfl, pending_ite (s.sampleLamps_pending w) rfl⟩
    | alswSample =>
      exact ⟨_, rfl, pending_ite rfl (pending_ite
        (by simp [State.raiseAlert, State.latchAlert, State.endPeriodEarly_pending]) rfl)⟩
    | ignSample high => exact ⟨_, rfl, pending_ite rfl (s.sampleIgnition_pending high)⟩
    | supplyLoss => exact ⟨_, rfl, pending_ite rfl (by simp [State.loseSupply])⟩
    | supplyReturn =>
      exact ⟨_, rfl, pending_ite (by simp [State.returnStores, State.returnBlocks, State.returnPower]) rfl⟩
    | coldStart => exact ⟨_, rfl, pending_ite (by simp [State.coldStart]) rfl⟩
    | commitWriteSuccess =>
      refine ⟨_, rfl, ?_⟩
      split
      · simp [State.commitSucceeds]
      · rfl
    | mirrorWriteSuccess =>
      refine ⟨_, rfl, ?_⟩
      split
      · simp [State.mirrorSucceeds]
      · rfl
    | _ => cases hc

/-- Settles O2: each dashboard command by its body, each message and event by the operations it is made of. -/
theorem commandsLeaveTheQueue : Obligations.CommandsLeaveTheQueue := exec_pending

end Sys2Proof.Machine
end

section
/-! PROOFS. The events as the dashboard unit reads and clears them (O51), and the transactions of the partition link (O55). -/

namespace Sys2Proof.Machine

/-! ### Events (R181, R182) -/

/-- R181: each of the sixteen bits is that of an event. -/
theorem exists_event_of_bit {n : Nat} (h : n < 16) : ∃ e : Event, e.bit = n := by
  have hbits : ∀ k < 16, ∃ e ∈ [Event.fare, .paymentDeclined, .hold, .tariffSwitch, .commitDone, .commitFailed,
      .shiftClosed, .sensor, .overspeed, .lamp, .alert, .call, .callMissed, .service, .supply, .terminalError],
      e.bit = k := by decide
  obtain ⟨e, -, he⟩ := hbits n h
  exact ⟨e, he⟩

/-- R181: a set of flags is not empty exactly when it holds that of an event. -/
theorem ne_zero_iff_exists_event (flags : BitVec 16) : flags ≠ 0 ↔ ∃ e : Event, flags.getLsbD e.bit = true := by
  constructor
  · intro h
    by_contra hnone
    refine h (BitVec.eq_of_getLsbD_eq fun n hn => ?_)
    obtain ⟨e, rfl⟩ := exists_event_of_bit hn
    simpa using fun he => hnone ⟨e, he⟩
  · rintro ⟨e, he⟩ rfl
    simp at he

/-- R182: an event's flag is enabled exactly when it is pending and the mask has it. -/
theorem enabledEvents_getLsbD (d : DashLink) (e : Event) :
    (enabledEvents d).getLsbD e.bit = true ↔ d.isPending e = true ∧ d.mask.getLsbD e.bit = true := by
  simp [enabledEvents, DashLink.isPending]

theorem State.dirqLow_iff (s : State) :
    s.dirqLow = true ↔ s.supply.power ≠ .holdover ∧ enabledEvents s.dash ≠ 0 := by
  simp [State.dirqLow]

/-- R182: the end of a READ EVENTS frame clears the copy once the answer's bytes were clocked. -/
theorem DashLink.finish_clearEvents (d : DashLink) (clocked : Nat) (copy : BitVec 16) :
    d.finish clocked (.clearEvents copy)
      = { d with events := if clocked < 5 then d.events else d.events &&& ~~~copy } := by
  unfold DashLink.finish readEventsBytes
  by_cases h : clocked < 5
  · rw [if_pos h]
    exact if_neg (by omega)
  · rw [if_neg h]
    exact if_pos (by omega)

/-- Settles O51: the two commands in their frame, the end of a READ EVENTS frame, and DIRQ by the enabled flags. -/
theorem eventsAreReadAndCleared : Obligations.EventsAreReadAndCleared := by
  refine ⟨fun s h => ?_, fun s n a r bytes copy hf hq => ?_, fun s => ?_⟩
  · have ⟨⟨_, hfollows⟩, _⟩ := h
    have hmasked (mask : Half) : SignFollows (s.onDash fun d => { d with mask := mask }) := hfollows
    exact ⟨congrArg Host.Outcome.next (takeCommand_of_unchanged h.serves hfollows rfl),
      fun mask => congrArg Host.Outcome.next (takeCommand_followed h rfl (hmasked mask))⟩
  · rw [exec_dcsRising_plain hq, DashLink.endFrame_answered hf, DashLink.finish_clearEvents]
  · simp only [State.dirqLow_iff, ne_zero_iff_exists_event, enabledEvents_getLsbD]

/-! ### Discarded writes (R186) -/

section
variable {s : State}

theorem exec_discarded (hp : s.supply.power = .active) (bytes : List Byte) :
    exec (.partitionWriteDiscarded bytes) s = .next (s.judgeWrite bytes) := congrArg Host.Outcome.next (if_pos hp)

/-- R186: a write that is no message sets TERMINAL_ERROR, and is acknowledged where its kind or length is wrong. -/
theorem State.judgeWrite_discarded {kind : Byte} {rest : List Byte} (h : isMessage (kind :: rest) = false) :
    s.judgeWrite (kind :: rest) = (s.raise .terminalError).ackDiscard kind (kind :: rest) := if_neg (by simp [h])

/-- R186: a write that names no station is no message and is not acknowledged. -/
theorem State.judgeWrite_unnamed {kind : Byte} {rest : List Byte} (h : namedStation (kind :: rest) = none) :
    s.judgeWrite (kind :: rest) = s.raise .terminalError := by
  rw [State.judgeWrite_discarded (by simp [isMessage, h]), State.ackDiscard, h]
  cases lengthFits (kind :: rest) <;> rfl

/-- R186: a write of a wrong kind or length has its ACK posted to the station it names. -/
theorem State.judgeWrite_named {kind b : Byte} {x : Station} {body : List Byte} (hx : stationArg b = some x)
    (hl : messageLength kind ≠ some (body.length + 2)) :
    s.judgeWrite (kind :: b :: body)
      = (s.raise .terminalError).post x (.ack kind (some .badMessage) 0 0) := by
  have hfits : lengthFits (kind :: b :: body) = false := by simpa [lengthFits] using hl
  have hname : namedStation (kind :: b :: body) = some x := hx
  rw [State.judgeWrite_discarded (by simp [isMessage, hfits]), State.ackDiscard, hfits, hname]
  rfl

/-! ### Reads of a notice (R187, R189) -/

theorem Sides.set_set {α : Type} (p : Sides α) (x : Station) (a b : α) : (p.set x a).set x b = p.set x b := by
  cases x <;> rfl

/-- R187: a read empties its slot when its sixteen bytes were clocked, of a notice not replaced since. -/
theorem NoticeRead.empties_iff (r : NoticeRead) (n : Nat) :
    r.empties n = true ↔ 16 ≤ n ∧ (∃ notice, r.copy = some notice) ∧ r.replaced = false := by
  simp only [NoticeRead.empties, Bool.and_eq_true, decide_eq_true_eq, Option.isSome_iff_exists, Bool.not_eq_true',
    and_assoc]
  rfl

/-- R187: the part after a read that empties its slot, before a RELEASE_HOLD is posted again. -/
def State.readOut (r : NoticeRead) (n : Nat) (s : State) : State :=
  (s.onLink (·.clear r.station)).onLink (·.finishRead (r.bytes n))

section
variable {r : NoticeRead} {n : Nat}

/-- R187: a read cut short, one of an empty slot, and one whose notice was replaced leave the slot. -/
theorem State.endRead_leaves (hr : s.link.read = some r) (h : n < 16 ∨ r.copy = none ∨ r.replaced = true) :
    s.endRead n = { s with link := { s.link with
      read := none, sent := (noticeBytes r.station r.copy ++ List.replicate n 0xFF).take n } } := by
  have hempties : ¬ r.empties n = true := by
    rw [NoticeRead.empties_iff]
    rintro ⟨hn, ⟨notice, hc⟩, hnot⟩
    rcases h with h | h | h
    · omega
    · simp [h] at hc
    · simp [h] at hnot
  rw [State.endRead, hr, ← NoticeRead.bytes_eq]
  exact if_neg hempties

/-- R187: a whole read of a notice empties its slot. -/
theorem State.endRead_readOut {notice : Notice} (hr : s.link.read = some r) (hn : 16 ≤ n) (hc : r.copy = some notice)
    (hnot : r.replaced = false) : s.endRead n = (s.readOut r n).repost r.station := by
  rw [State.endRead, hr]
  exact if_pos ((NoticeRead.empties_iff r n).2 ⟨hn, ⟨notice, hc⟩, hnot⟩)

/-- R189: with no hold awaiting its release at the station the slot stays empty. -/
theorem State.readOut_repost_none
    (hnone : ∀ i t h, s.slot i = some t → t.hold = some h → ¬ (h.state = .releasePending ∧ h.station = r.station)) :
    (s.readOut r n).repost r.station = { s with link := { s.link with
      notices := s.link.notices.set r.station none, read := none
      sent := (noticeBytes r.station r.copy ++ List.replicate n 0xFF).take n } } := by
  rw [State.repost_none (s := s.readOut r n) hnone, ← NoticeRead.bytes_eq]
  rfl

/-- R189: the RELEASE_HOLD of the station's pending hold with the lowest trip number goes into the slot. -/
theorem State.readOut_repost_lowest {i : Fin 4} {t : Trip} {h : Hold} (ht : s.slot i = some t) (hh : t.hold = some h)
    (hs : h.state = .releasePending) (hx : h.station = r.station)
    (hl : ∀ j v g, s.slot j = some v → v.hold = some g → g.state = .releasePending → g.station = r.station → j ≠ i →
      t.number < v.number) :
    (s.readOut r n).repost r.station = { s with link := { s.link with
      notices := s.link.notices.set r.station (some (.releaseHold t.number h.reference h.amount)), read := none
      sent := (noticeBytes r.station r.copy ++ List.replicate n 0xFF).take n } } := by
  have hempty : (s.readOut r n).link.notices.get r.station = none := Sides.get_set_same ..
  have hset : (s.readOut r n).link.notices = s.link.notices.set r.station none := rfl
  rw [State.repost_lowest (s := s.readOut r n) ht hh hs hx hl, State.post, State.onLink, PartitionLink.post,
    if_pos (by rw [hempty]; rfl), PartitionLink.put, hset, Sides.set_set, ← NoticeRead.bytes_eq]
  rfl

end

end

/-- Settles O55: each write by what is wrong with it, a read by whether it empties its slot and what is posted again, and the
acknowledgements by the power state and the address. -/
theorem partitionTransactionsAreJudged : Obligations.PartitionTransactionsAreJudged := by
  refine ⟨fun s sent hp hsent => ?_, fun s address n x => ⟨?_, rfl, rfl⟩⟩
  · have hread (part : ReadPart) : exec (.noticeRead part) s = .next (s.readNotice part) :=
      congrArg Host.Outcome.next (if_pos hp)
    have hbegun : (s.onLink PartitionLink.beginRead).link.read
        = some ⟨s.link.selector, s.link.notices.get s.link.selector, false⟩ := rfl
    refine ⟨fun x => congrArg Host.Outcome.next (if_pos hp), fun kind b x body hx hl => ?_, fun kind b body hb => ?_,
      fun kind => ?_, exec_discarded hp [], fun n h => ?_, fun n notice hn hc hnone => ?_,
      fun n notice i t p h hn hc ht hpay hh hs hx hl => ?_, hread .start, fun r n hr h => ?_,
      fun r n notice hr hn hc hnot hnone => ?_, fun r n notice i t p h hr hn hc hnot ht hpay hh hs hx hl => ?_⟩
    · rw [exec_discarded hp, State.judgeWrite_named hx hl]
      rfl
    · rw [exec_discarded hp, State.judgeWrite_unnamed (rest := b :: body) hb]
      rfl
    · rw [exec_discarded hp, State.judgeWrite_unnamed rfl]
      rfl
    · rw [hread, hsent]
      exact congrArg Host.Outcome.next (State.endRead_leaves hbegun (h.imp_right .inl))
    · rw [hread, hsent]
      exact congrArg Host.Outcome.next ((State.endRead_readOut hbegun hn hc rfl).trans
        (State.readOut_repost_none (s := s.onLink PartitionLink.beginRead) hnone))
    · rw [hread, hsent]
      exact congrArg Host.Outcome.next ((State.endRead_readOut hbegun hn hc rfl).trans
        (State.readOut_repost_lowest (s := s.onLink PartitionLink.beginRead) ht (Trip.hold_eq hpay hh) hs hx hl))
    · rw [hread]
      exact congrArg Host.Outcome.next (State.endRead_leaves hr h)
    · rw [hread, ← hc]
      exact congrArg Host.Outcome.next ((State.endRead_readOut hr hn hc hnot).trans (State.readOut_repost_none hnone))
    · rw [hread, ← hc]
      exact congrArg Host.Outcome.next ((State.endRead_readOut hr hn hc hnot).trans
        (State.readOut_repost_lowest ht (Trip.hold_eq hpay hh) hs hx hl))
  · simp [State.acknowledges, partitionAddress]

end Sys2Proof.Machine
end
